-- ==== Sys2Proof/Word.lean ====
section
/-! DEFINITION. The widths the block moves (spec/00_scope.md R12, spec/20_memory.md R39): a byte, the 9-bit decode word
of format BYTE, the 16-bit token word of format TOKEN. -/

namespace Sys2Proof

/-- `u8`: an unsigned 8-bit value (R12). Input bytes and scan codes. -/
abbrev Byte := BitVec 8

/-- Format BYTE, the decode word `W = {mode, b[7:0]}` (spec/30_encoding.md R48). -/
abbrev DecodeWord := BitVec 9

/-- Format TOKEN, the token word `T = {t0, t1}` (spec/30_encoding.md R50). -/
abbrev TokenWord := BitVec 16

/-- The byte `^`, 0x5E (spec/30_encoding.md R49). -/
abbrev caret : Byte := 0x5E#8

end Sys2Proof
end

