-- ==== Sys2Proof/Machine/Memory.lean ====
section
/-! DEFINITION. The block's addressable storage as plain data (spec/20_memory.md R34): a list of (index, byte) cells in one
canonical form. The Code Table and the token buffer are each such a list; the parity table is derived (R36). -/

namespace Sys2Proof.Machine

/-- A storage space: cells with strictly rising indices, none equal to what an unlisted index reads as. -/
abbrev Memory := List Host.Cell

/-- What an index with no cell reads as: 0x00. In the Code Table that value is NONE, "produce no output" (R38); in the
token buffer it is the value clearing and reset leave in a slot (spec/10_state.md R24). DESIGN CHOICE (one definition for
both spaces), safe: log 10. -/
def Memory.unlisted : BitVec 8 := 0x00#8

/-- `MemRead(space, a)` (spec/00_scope.md R13). A read changes nothing (R35, R41). -/
def Memory.read : Memory → Nat → BitVec 8
  | [], _ => Memory.unlisted
  | (k, v) :: m, a => if a = k then v else Memory.read m a

/-- `MemWrite(space, a, v)` (spec/00_scope.md R13), keeping the canonical form. -/
def Memory.write : Memory → Nat → BitVec 8 → Memory
  | [], a, v => if v = Memory.unlisted then [] else [(a, v)]
  | (k, w) :: m, a, v =>
    if a < k then (if v = Memory.unlisted then (k, w) :: m else (a, v) :: (k, w) :: m)
    else if a = k then (if v = Memory.unlisted then m else (a, v) :: m)
    else (k, w) :: Memory.write m a v

/-- The canonical form: indices strictly rising, no cell holding the unlisted value. -/
def Memory.wf : Memory → Bool
  | [] => true
  | (k, v) :: m => decide (v ≠ Memory.unlisted) && m.all (fun c => decide (k < c.1)) && Memory.wf m

/-- Every listed index lies below `n`: the space's extent (spec/20_memory.md R42). -/
def Memory.within (m : Memory) (n : Nat) : Bool := m.all fun c => decide (c.1 < n)

end Sys2Proof.Machine
end

