-- ==== Sys2Proof/Config.lean ====
section
/-! DEFINITION. The configuration (spec/10_state.md R20, spec/00_scope.md R7 to R11): every number the source leaves OPEN
is a field, fixed for the run. It is plain data held beside the state, so that a claim about every state is a claim about
every configuration (DESIGN CHOICE, safe: log 1). The OPEN time draws of R11 are a free value. -/

namespace Sys2Proof

/-- The parameters of R7 to R10 and R138. Which values are legal is `legal` (Machine/Legality.lean). -/
structure Config where
  /-- `CODE_TABLE`, 256 entries of 8 bits; an unlisted entry is NONE (R7, R35, R38). -/
  codeTable : Machine.Memory
  /-- `SC_LEFT` .. `SC_CMD_MULT`, the scan codes tokens emit (R8). -/
  scLeft : Byte
  scRight : Byte
  scUp : Byte
  scDown : Byte
  scShiftUp : Byte
  scShiftDown : Byte
  scHold : Byte
  scExecute : Byte
  scAttn : Byte
  scCmdAttn : Byte
  scCmdPlus : Byte
  scCmdMinus : Byte
  scCmdMult : Byte
  /-- `TOKEN_CAP`, the token buffer's capacity in bytes (R9). -/
  tokenCap : Nat
  /-- `STROBE_HOLD`, the length of step 4, in ticks (R9). -/
  strobeHold : Nat
  /-- `T_MIN_PULSE`, the target's minimum reliable pulse width, in ticks (R138). -/
  tMinPulse : Nat
  /-- `T_KEY_REPEAT`, the target's key-repeat interval, in ticks (R138). -/
  tKeyRepeat : Nat
  /-- `HAS_SHIFT_ARROWS`: whether SU and SD are recognized (R10, R101). -/
  hasShiftArrows : Bool
  /-- The model's own: how many ticks of the delay timer make one millisecond. DESIGN CHOICE, safe: log 3. -/
  ticksPerMs : Nat
deriving DecidableEq, Repr

/-- `PAUSE_UNIT` = 100 ms, the unit of the D1..D9 pauses, fixed by the document (R9). -/
def Config.pauseUnit : Nat := 100

/-- The OPEN, finite, non-negative time draws of R11 (I5): a FREE VALUE, opaque, one for each value of the state's
counter `draws`. Used only as a label in the bus trace. DESIGN CHOICE, safe: log 4. -/
opaque Config.freeGap : Nat → Nat

/-- The spec's test configuration TC (spec/92_eei_decisions.md D21): invented values, NOT the hardware's codes. No meaning
reads it; it stands only where one configuration must be written down: in `State.reset` and `decodeTableWord`. TC leaves
`STROBE_HOLD` symbolic; 1 < 2 < 3 ticks at one tick a millisecond stand for it and its bounds. DESIGN CHOICE, unsafe: log 2. -/
def Config.tc : Config where
  codeTable :=
    [(0x0A, 0x0E#8), (0x0D, 0x0E#8), (0x20, 0x7F#8), (0x31, 0x80#8), (0x41, 0x5A#8), (0x42, 0x3B#8), (0x58, 0x01#8),
     (0x5A, 0xFF#8), (0x61, 0x5A#8), (0x62, 0x3B#8), (0x78, 0x01#8), (0x7A, 0xFF#8)]
  scLeft := 0x11#8
  scRight := 0x12#8
  scUp := 0x13#8
  scDown := 0x14#8
  scShiftUp := 0x93#8
  scShiftDown := 0x94#8
  scHold := 0x20#8
  scExecute := 0x0E#8
  scAttn := 0x21#8
  scCmdAttn := 0xA1#8
  scCmdPlus := 0xA2#8
  scCmdMinus := 0xA3#8
  scCmdMult := 0xA4#8
  tokenCap := 4
  strobeHold := 2
  tMinPulse := 1
  tKeyRepeat := 3
  hasShiftArrows := true
  ticksPerMs := 1

end Sys2Proof
end

