-- ==== Sys2Proof/Machine/Lookup.lean ====
section
/-! DEFINITION. The scan-code lookup and the parity generator (spec/40_lookup_parity.md). -/

namespace Sys2Proof.Machine

/-- `MemRead(CODE_TABLE, b)` (spec/20_memory.md R35). -/
def codeEntry (cfg : Config) (b : Byte) : Byte := cfg.codeTable.read b.toNat

/-- `lookup(b)` (R58): `some c` is `Mapped(c)`, `none` is `Unmapped`, for the sentinel 0x00 (R38). -/
def lookup (cfg : Config) (b : Byte) : Option Byte :=
  if codeEntry cfg b = 0x00#8 then none else some (codeEntry cfg b)

/-- `popcount(v)`: the number of 1 bits in `v[7:0]` (spec/00_scope.md R12). -/
def popcount (v : Byte) : Nat := ((List.range 8).filter fun i => v.getLsbD i).length

/-- `parity(c)`, the Parity Rule (R60; the formula governs, C1): true is bit 1. -/
def parity (c : Byte) : Bool := popcount c % 2 == 1

/-- `MemRead(PARITY_TABLE, b)`: the table is derived entry by entry from the Code Table (spec/20_memory.md R36). -/
def parityEntry (cfg : Config) (b : Byte) : Bool := parity (codeEntry cfg b)

end Sys2Proof.Machine
end

