-- ==== Sys2Proof/Syntax.lean ====
section
/-! DEFINITION. The 30 operations of spec/opcode_table.json (spec/30_encoding.md R57): five byte operations and
twenty-five token operations. -/

namespace Sys2Proof

/-- One constructor per row of the opcode table. The operand of a byte operation is the input byte; a token operation
carries none, its key being the token itself (R52: the digit of D1..D9 is fixed by the row). -/
inductive Instr where
  /-- `N.OPEN` (R67). -/
  | nOpen
  /-- `N.KEY` (R68): `b` is a mapped byte other than `^`. -/
  | nKey (b : Byte)
  /-- `N.DROP` (R69): `b` is an unmapped byte other than `^`. -/
  | nDrop (b : Byte)
  /-- `E.CLOSE` (R71). -/
  | eClose
  /-- `E.APPEND` (R70): `b` is a byte other than `^`. -/
  | eAppend (b : Byte)
  /-- `T.LE` (R76). -/
  | tLE
  /-- `T.RI` (R77). -/
  | tRI
  /-- `T.UP` (R78). -/
  | tUP
  /-- `T.DO` (R79). -/
  | tDO
  /-- `T.SU` (R80). -/
  | tSU
  /-- `T.SD` (R81). -/
  | tSD
  /-- `T.HO` (R82). -/
  | tHO
  /-- `T.EX` (R83). -/
  | tEX
  /-- `T.AT` (R84). -/
  | tAT
  /-- `T.CA` (R85). -/
  | tCA
  /-- `T.CP` (R86). -/
  | tCP
  /-- `T.CM` (R87). -/
  | tCM
  /-- `T.CS` (R88). -/
  | tCS
  /-- `T.D1` (R89). -/
  | tD1
  /-- `T.D2` (R90). -/
  | tD2
  /-- `T.D3` (R91). -/
  | tD3
  /-- `T.D4` (R92). -/
  | tD4
  /-- `T.D5` (R93). -/
  | tD5
  /-- `T.D6` (R94). -/
  | tD6
  /-- `T.D7` (R95). -/
  | tD7
  /-- `T.D8` (R96). -/
  | tD8
  /-- `T.D9` (R97). -/
  | tD9
  /-- `T.E0` (R98). -/
  | tE0
  /-- `T.E1` (R99). -/
  | tE1
  /-- `T.INERT` (R100). -/
  | tInert
deriving DecidableEq, Repr

end Sys2Proof
end

