-- ==== Sys2Proof/WellFormed.lean ====
section
/-! DEFINITION. When an instruction is one the decoder can give (the extra conditions of spec/30_encoding.md R49 and R51).
The conditions on the Code Table and on SU and SD depend on the configuration. -/

namespace Sys2Proof

/-- The five operations of format BYTE (R49); the others are of format TOKEN (R51). -/
def Instr.isByteOp : Instr → Bool
  | .nOpen | .nKey _ | .nDrop _ | .eClose | .eAppend _ => true
  | .tLE | .tRI | .tUP | .tDO | .tSU | .tSD | .tHO | .tEX | .tAT | .tCA | .tCP | .tCM | .tCS => false
  | .tD1 | .tD2 | .tD3 | .tD4 | .tD5 | .tD6 | .tD7 | .tD8 | .tD9 => false
  | .tE0 | .tE1 | .tInert => false

/-- SU and SD are recognized only when `HAS_SHIFT_ARROWS` (R51, spec/43_tokens.md R80, R81, R101). -/
def Instr.recognized (cfg : Config) : Instr → Bool
  | .tSU | .tSD => cfg.hasShiftArrows
  | .nOpen | .nKey _ | .nDrop _ | .eClose | .eAppend _ => true
  | .tLE | .tRI | .tUP | .tDO | .tHO | .tEX | .tAT | .tCA | .tCP | .tCM | .tCS => true
  | .tD1 | .tD2 | .tD3 | .tD4 | .tD5 | .tD6 | .tD7 | .tD8 | .tD9 => true
  | .tE0 | .tE1 | .tInert => true

/-- The operand conditions of R49, rows 2, 3 and 5. -/
def Instr.operandOk (cfg : Config) : Instr → Bool
  | .nKey b => b != caret && (Machine.lookup cfg b).isSome
  | .nDrop b => b != caret && (Machine.lookup cfg b).isNone
  | .eAppend b => b != caret
  | .nOpen | .eClose => true
  | .tLE | .tRI | .tUP | .tDO | .tSU | .tSD | .tHO | .tEX | .tAT | .tCA | .tCP | .tCM | .tCS => true
  | .tD1 | .tD2 | .tD3 | .tD4 | .tD5 | .tD6 | .tD7 | .tD8 | .tD9 => true
  | .tE0 | .tE1 | .tInert => true

/-- An instruction some input selects under the configuration `cfg`. -/
def Instr.wellFormed (cfg : Config) (i : Instr) : Bool := i.operandOk cfg && i.recognized cfg

end Sys2Proof
end

