-- ==== Sys2Proof/Decode.lean ====
section
/-! DEFINITION. The decoder and the encoder (spec/30_encoding.md). Decoding is total and refuses nothing: no encoding is
illegal, reserved or trapping (R53). -/

namespace Sys2Proof

/-- The two formats' words: format BYTE (R48), and format TOKEN with its valid bit `V` (R50). -/
inductive OpWord where
  | byte (w : DecodeWord)
  | token (v : Bool) (t : TokenWord)
deriving DecidableEq, Repr

/-- Whether a word is of format BYTE. -/
def OpWord.isByte : OpWord → Bool
  | .byte _ => true
  | .token _ _ => false

/-! ## Format BYTE -/

/-- `{mode, b}`: the mode bit above the byte (R48). -/
def byteWord (m : Bool) (b : Byte) : DecodeWord := BitVec.ofBool m ++ b

/-- `W[8]` (R48). -/
def modeField (w : DecodeWord) : Bool := w.getLsbD 8

/-- `W[7:0]` (R48). -/
def byteField (w : DecodeWord) : Byte := w.extractLsb' 0 8

/-- The five rows of R49 in their order; the first match wins. -/
def decodeByte (cfg : Config) (w : DecodeWord) : Instr :=
  if w = 0x05E#9 then .nOpen
  else if modeField w = false then
    (if (Machine.lookup cfg (byteField w)).isSome then .nKey (byteField w) else .nDrop (byteField w))
  else if w = 0x15E#9 then .eClose
  else .eAppend (byteField w)

/-! ## Format TOKEN -/

/-- `{t0, t1}`: the first token byte in bits 15:8 (R50, spec/20_memory.md R39). -/
def tokenWord (t0 t1 : Byte) : TokenWord := t0 ++ t1

/-- `T[15:8]` and `T[7:0]` (R50). -/
def firstField (t : TokenWord) : Byte := t.extractLsb' 8 8

/-- See `firstField`. -/
def secondField (t : TokenWord) : Byte := t.extractLsb' 0 8

/-- The scan-code rows of the dictionary (R51). -/
def scanTokens : List (TokenWord × Instr) :=
  [(0x4C45#16, .tLE), (0x5249#16, .tRI), (0x5550#16, .tUP), (0x444F#16, .tDO), (0x5355#16, .tSU), (0x5344#16, .tSD),
   (0x484F#16, .tHO), (0x4558#16, .tEX), (0x4154#16, .tAT), (0x4341#16, .tCA), (0x4350#16, .tCP), (0x434D#16, .tCM),
   (0x4353#16, .tCS)]

/-- The pause rows of the dictionary (R51). -/
def pauseTokens : List (TokenWord × Instr) :=
  [(0x4431#16, .tD1), (0x4432#16, .tD2), (0x4433#16, .tD3), (0x4434#16, .tD4), (0x4435#16, .tD5), (0x4436#16, .tD6),
   (0x4437#16, .tD7), (0x4438#16, .tD8), (0x4439#16, .tD9)]

/-- The gate rows of the dictionary (R51). -/
def gateTokens : List (TokenWord × Instr) := [(0x4530#16, .tE0), (0x4531#16, .tE1)]

/-- The 24 keyed rows of the token dictionary (R51). -/
def tokenTable : List (TokenWord × Instr) := scanTokens ++ pauseTokens ++ gateTokens

/-- The keyed row that matches `t` on both bytes, if any (R51, R75). -/
def keyedToken (t : TokenWord) : Option Instr := (tokenTable.find? fun r => r.1 == t).map Prod.snd

/-- `decode_token(V, t0, t1)`'s choice of operation (spec/43_tokens.md R74): `T.INERT` for `V = 0`, for a word no keyed row
matches, and for SU and SD when they are not recognized (R101). -/
def decodeToken (cfg : Config) (v : Bool) (t : TokenWord) : Instr :=
  if v then
    match keyedToken t with
    | some i => if i.recognized cfg then i else .tInert
    | none => .tInert
  else .tInert

/-! ## Both formats -/

/-- The decoder: every word of either format has a meaning (R53). -/
def decode (cfg : Config) : OpWord → Instr
  | .byte w => decodeByte cfg w
  | .token v t => decodeToken cfg v t

/-- The encoder, from the same tables (R49, R51). `T.INERT` is encoded as the empty sequence `^^`, `V = 0` with both slots
0x00 (R100; log 9). -/
def encode : Instr → OpWord
  | .nOpen => .byte 0x05E#9
  | .nKey b => .byte (byteWord false b)
  | .nDrop b => .byte (byteWord false b)
  | .eClose => .byte 0x15E#9
  | .eAppend b => .byte (byteWord true b)
  | .tLE => .token true 0x4C45#16
  | .tRI => .token true 0x5249#16
  | .tUP => .token true 0x5550#16
  | .tDO => .token true 0x444F#16
  | .tSU => .token true 0x5355#16
  | .tSD => .token true 0x5344#16
  | .tHO => .token true 0x484F#16
  | .tEX => .token true 0x4558#16
  | .tAT => .token true 0x4154#16
  | .tCA => .token true 0x4341#16
  | .tCP => .token true 0x4350#16
  | .tCM => .token true 0x434D#16
  | .tCS => .token true 0x4353#16
  | .tD1 => .token true 0x4431#16
  | .tD2 => .token true 0x4432#16
  | .tD3 => .token true 0x4433#16
  | .tD4 => .token true 0x4434#16
  | .tD5 => .token true 0x4435#16
  | .tD6 => .token true 0x4436#16
  | .tD7 => .token true 0x4437#16
  | .tD8 => .token true 0x4438#16
  | .tD9 => .token true 0x4439#16
  | .tE0 => .token true 0x4530#16
  | .tE1 => .token true 0x4531#16
  | .tInert => .token false 0x0000#16

/-- The word of `nbits` bits that spec/opcode_table.json numbers `w`. A 9-bit number is a word of format BYTE. Any other is
a valid token word: the token words below 0x200, whose first byte would be 0x00 or 0x01, are the only ones this cannot
name, and no keyed row is among them. A row with no bits at all (`T.INERT`'s mask is 0x0000) is the empty token.
DESIGN CHOICE, safe: log 9. -/
def opWordOf (nbits w : Nat) : OpWord :=
  let w := w % 2 ^ nbits
  if nbits = 0 then .token false 0x0000#16
  else if w < 0x200 then .byte (BitVec.ofNat 9 w)
  else .token true (BitVec.ofNat 16 w)

/-- The instruction the decoder reads from a table word, under the configuration of `State.reset` (log 2, log 9). -/
def decodeTableWord (nbits w : Nat) : Option Instr := some (decode Config.tc (opWordOf nbits w))

end Sys2Proof
end

