-- ==== Sys2Proof/Machine/Operands.lean ====
section
/-! DEFINITION. The one operand an encoding carries: the digit of D1..D9 (spec/30_encoding.md R52). -/

namespace Sys2Proof.Machine

/-- `zext_16(t1 - 0x30)` (R52, spec/00_scope.md R12). -/
def pauseDigit (t1 : Byte) : BitVec 16 := (t1 - 0x30#8).setWidth 16

/-- The pause length in milliseconds, `zext_16(t1 - 0x30) * PAUSE_UNIT` (R52). -/
def pauseLength (t1 : Byte) : Nat := (pauseDigit t1).toNat * Config.pauseUnit

end Sys2Proof.Machine
end

