-- ==== Sys2Proof/Machine/State.lean ====
section
/-! DEFINITION. The state of the block (spec/10_state.md R19), with the configuration it runs under (R20), the
environment's inputs (R33, spec/70_reset_and_hazards.md R130) and the observation (spec/00_scope.md R14). -/

namespace Sys2Proof.Machine

/-- The parser state (R22). -/
inductive Mode where
  | normal
  | escape
deriving DecidableEq, Repr

/-- The Execute Gate (R23). -/
inductive Gate where
  | enabled
  | disabled
deriving DecidableEq, Repr

/-- The logical state of one output line (spec/00_scope.md R15). -/
inductive Line where
  | asserted
  | idle
deriving DecidableEq, Repr

/-- The bus image `(D[7:0], P, S)` (R27); `d[i]` is the line `D[i]`, which carries bit `i` of the scan code. -/
structure Bus where
  d : Vector Line 8
  p : Line
  s : Line
deriving DecidableEq, Repr

/-- Every line `Idle`. -/
def Bus.released : Bus := { d := Vector.replicate 8 .idle, p := .idle, s := .idle }

/-- The sequencer's phases (R28). -/
inductive Phase where
  | idle
  | txData
  | txPar
  | txStrobeOn
  | txHold
  | txStrobeOff
  | txRelease
  | pause
deriving DecidableEq, Repr

/-- The result of one input byte (spec/00_scope.md R14): `None`, `Emit(c, p)` or `Pause(ms)`. -/
inductive Action where
  | none
  | emit (c : Byte) (p : Bool)
  | pause (ms : Nat)
deriving DecidableEq, Repr

/-- How long a bus image of the trace is held (spec/00_scope.md R14): `STROBE_HOLD` (in ticks), a pause length (in
milliseconds), or an OPEN draw (in ticks, R11). -/
inductive Hold where
  | strobe (ticks : Nat)
  | pause (ms : Nat)
  | draw (ticks : Nat)
deriving DecidableEq, Repr

/-- Everything the spec gives the machine. INVENTORY.md lists each field with its rule and reset value. -/
structure State where
  /-- The configuration; no step writes it (R20). -/
  cfg : Config
  /-- `mode` (R22). -/
  mode : Mode
  /-- `gate` (R23). -/
  gate : Gate
  /-- `tok[0..TOKEN_CAP-1]` (R24). -/
  tok : Memory
  /-- `tok_idx` (R25). -/
  tokIdx : Nat
  /-- `tx_code` (R26). -/
  txCode : Byte
  /-- `tx_par` (R26). -/
  txPar : Bool
  /-- The output lines (R27). -/
  bus : Bus
  /-- `phase` (R28). -/
  phase : Phase
  /-- `tmr`, the time left in a hold or pause, in ticks (R29; log 3). -/
  tmr : Nat
  /-- The host link's bytes not yet taken (R33): environment. -/
  input : List Byte
  /-- The reset input (spec/70_reset_and_hazards.md R130): environment. -/
  resetReq : Bool
  /-- The action sequence so far, oldest first (spec/00_scope.md R14): observation. -/
  actions : List Action
  /-- The bus trace so far, oldest first (spec/00_scope.md R14): observation. -/
  trace : List (Bus × Hold)
  /-- The model's own: which OPEN draw of R11 comes next (log 4). -/
  draws : Nat
deriving DecidableEq, Repr

/-- What ends a run at an error. -/
inductive Fault where
  /-- Raised by `startTransmit` when the parity bit does not match the code, as a checking model may
  (spec/60_exceptions.md R120). Never reached under the rules (R61). Safe: it only stops a run. -/
  | parityMismatch
deriving DecidableEq, Repr

/-- What the model gives no step to. -/
inductive Refusal where
  /-- An instruction with no meaning yet, in an arm of `exec`. Safe. -/
  | notModelled (mnemonic : String)
  /-- Raised by `step` for a configuration that breaks a constraint of the spec, before any step
  (spec/60_exceptions.md R120). Safe: it only stops a run. -/
  | illegalConfig
deriving DecidableEq, Repr

/-- The reset state (spec/70_reset_and_hazards.md R131) under the configuration `cfg`, which reset does not change, with
nothing supplied by the environment and nothing observed yet (R142). -/
def State.resetWith (cfg : Config) : State where
  cfg := cfg
  mode := .normal
  gate := .enabled
  tok := []
  tokIdx := 0
  txCode := 0x00#8
  txPar := false
  bus := Bus.released
  phase := .idle
  tmr := 0
  input := []
  resetReq := false
  actions := []
  trace := []
  draws := 0

/-- The reset state under the one configuration the spec writes down. DESIGN CHOICE (the configuration is OPEN), unsafe:
log 2. A claim about reset is stated over `State.resetWith cfg` for every `cfg`. -/
def State.reset : State := State.resetWith Config.tc

end Sys2Proof.Machine
end

