-- ==== Sys2Proof/Machine/Flags.lean ====
section
/-! DEFINITION. The block's two flags, `mode` and `gate` (spec/10_state.md R21 to R23): their bit values and their writes.
No operation computes a flag from arithmetic (R21). -/

namespace Sys2Proof.Machine

/-- `mode` as the bit `W[8]` (spec/10_state.md R19, spec/30_encoding.md R48): 0 = Normal, 1 = Escape. -/
def Mode.bit : Mode → Bool
  | .normal => false
  | .escape => true

/-- The mode a bit `W[8]` stands for. -/
def Mode.ofBit (b : Bool) : Mode := if b then .escape else .normal

/-- `mode <- m` (R22). -/
def State.setMode (s : State) (m : Mode) : State := { s with mode := m }

/-- `gate <- g` (R23). -/
def State.setGate (s : State) (g : Gate) : State := { s with gate := g }

end Sys2Proof.Machine
end

