-- ==== Sys2Proof/Machine/Ops.lean ====
section
/-! DEFINITION. The operations the meanings share: writes of single state elements, the token buffer, the Execute Gate's
`gated_emit`, the carrying out of an action, and reset. The block takes no exception and returns from none (spec/60_exceptions.md
R115, R123, R124), so there is no such operation here; `restart` is the one event that acts on the whole state. -/

namespace Sys2Proof.Machine

/-- What a meaning answers. -/
abbrev Result := Host.Outcome State Fault Refusal

/-! ## Single elements (spec/00_scope.md R13, `name <- v`) -/

def State.setTok (s : State) (m : Memory) : State := { s with tok := m }
def State.setTokIdx (s : State) (n : Nat) : State := { s with tokIdx := n }
def State.setLatch (s : State) (c : Byte) (p : Bool) : State := { s with txCode := c, txPar := p }
def State.setBus (s : State) (b : Bus) : State := { s with bus := b }
def State.setPhase (s : State) (p : Phase) : State := { s with phase := p }
def State.setTmr (s : State) (n : Nat) : State := { s with tmr := n }
def State.setInput (s : State) (l : List Byte) : State := { s with input := l }

/-! ## The observation (spec/00_scope.md R14) -/

/-- One more action in the action sequence. -/
def State.record (s : State) (a : Action) : State := { s with actions := s.actions ++ [a] }

/-- The present bus image, held for `h`, is the next entry of the bus trace. -/
def State.logImage (s : State) (h : Hold) : State := { s with trace := s.trace ++ [(s.bus, h)] }

/-- The present bus image, held for an OPEN draw (spec/00_scope.md R11; log 4). -/
def State.logImageForDraw (s : State) : State :=
  { s with trace := s.trace ++ [(s.bus, .draw (Config.freeGap s.draws))], draws := s.draws + 1 }

/-- The image `b` stands for one more draw `g`: where the last entry is that image held for draws, the entry is lengthened,
so that no image is added; else `b` held for `g` is the next entry. -/
def lengthen (tr : List (Bus × Hold)) (b : Bus) (g : Nat) : List (Bus × Hold) :=
  match tr.getLast? with
  | some (b', .draw h) => if b' = b then tr.dropLast ++ [(b, .draw (h + g))] else tr ++ [(b, .draw g)]
  | some (_, .strobe _) | some (_, .pause _) | none => tr ++ [(b, .draw g)]

/-- The present bus image stands for one more OPEN draw. -/
def State.standForDraw (s : State) : State :=
  { s with trace := lengthen s.trace s.bus (Config.freeGap s.draws), draws := s.draws + 1 }

/-- The OPEN gap between the end of the last action and the start of the next (spec/00_scope.md R11), drawn when the next
byte is taken. After an `Emit` it is the label of step 6's image, which is held until the next action
(spec/44_strobe_transmitter.md R110, R111); before the first action there is none. DESIGN CHOICE, safe: log 4. -/
def State.afterGap (s : State) : State :=
  match s.actions.getLast? with
  | none | some (.emit _ _) => s
  | some .none | some (.pause _) => s.standForDraw

/-! ## The token buffer (spec/20_memory.md R37) -/

/-- Every slot 0x00 and `tok_idx <- 0`: what opening a sequence and discarding the buffer do (spec/42_escape_parser.md R67,
R71; spec/10_state.md R24). -/
def State.clearBuffer (s : State) : State := (s.setTok []).setTokIdx 0

/-- The slot an append writes: the next one, or the last one once the cap is reached (spec/42_escape_parser.md R70). -/
def State.appendSlot (s : State) : Nat :=
  if s.tokIdx < s.cfg.tokenCap then s.tokIdx else s.cfg.tokenCap - 1

/-- The index after an append: it saturates at `TOKEN_CAP` (spec/10_state.md R25). -/
def State.appendIdx (s : State) : Nat := if s.tokIdx < s.cfg.tokenCap then s.tokIdx + 1 else s.tokIdx

/-- `tok[slot] <- b` and the new index (spec/42_escape_parser.md R70). -/
def State.append (s : State) (b : Byte) : State := (s.setTok (s.tok.write s.appendSlot b)).setTokIdx s.appendIdx

/-- `V`: at least two bytes were received between the delimiters (spec/30_encoding.md R50). -/
def State.tokenValid (s : State) : Bool := decide (2 ≤ s.tokIdx)

/-- `tok[0]` and `tok[1]`, the two slots a closing `^` reads (spec/20_memory.md R37, R41). -/
def State.tokenBytes (s : State) : Byte × Byte := (s.tok.read 0, s.tok.read 1)

/-! ## Actions -/

/-- `gated_emit(c)` (spec/41_execute_gate.md R63): the one source of `Emit` actions (R64). -/
def gatedEmit (s : State) (c : Byte) : Action :=
  if c = s.cfg.scExecute ∧ s.gate = .disabled then .none else .emit c (parity c)

/-- `start_transmit(c, p)` (spec/44_strobe_transmitter.md R103), with the check a checking model may make. -/
def startTransmit (s : State) (c : Byte) (p : Bool) : Result :=
  if p = parity c then .next ((s.setLatch c p).setPhase .txData) else .fault .parityMismatch

/-- `start_pause(ms)` (spec/60_exceptions.md R126): the timer is loaded, and the idle image enters the trace labelled `ms`.
The timer counts ticks (log 3). -/
def startPause (s : State) (ms : Nat) : State :=
  ((s.setTmr (ms * s.cfg.ticksPerMs)).setPhase .pause).logImage (.pause ms)

/-- What `step_IDLE` does with the action of a byte (spec/42_escape_parser.md R66). -/
def carryOut (s : State) (a : Action) : Result :=
  match a with
  | .none => .next ((s.record .none).setPhase .idle)
  | .emit c p => startTransmit (s.record (.emit c p)) c p
  | .pause ms => .next (startPause (s.record (.pause ms)) ms)

/-! ## Reset -/

/-- A restart (spec/70_reset_and_hazards.md R130, R132): every element of the block takes its reset value at once, in any
phase. The configuration is not state (R131); the bytes not yet taken are the host link's (spec/10_state.md R30); a new
run is observed (R142). DESIGN CHOICE (input, observation and draws across a restart), unsafe: log 7. -/
def restart (s : State) : State := { State.resetWith s.cfg with input := s.input, draws := s.draws }

end Sys2Proof.Machine
end

