-- ==== Sys2Proof/Machine/Tokens.lean ====
section
/-! DEFINITION. The token operations (spec/43_tokens.md): each meaning is that operation's own effect and the carrying out of
its action (spec/42_escape_parser.md R66). The return to `Normal` and the discarding of the buffer are `E.CLOSE`'s
(ByteOps.lean), in the same step. -/

namespace Sys2Proof.Machine

/-! ## Scan-code tokens -/

/-- `T.LE` (R76). -/
def execTLE (s : State) : Result := carryOut s (gatedEmit s s.cfg.scLeft)

/-- `T.RI` (R77). -/
def execTRI (s : State) : Result := carryOut s (gatedEmit s s.cfg.scRight)

/-- `T.UP` (R78). -/
def execTUP (s : State) : Result := carryOut s (gatedEmit s s.cfg.scUp)

/-- `T.DO` (R79). -/
def execTDO (s : State) : Result := carryOut s (gatedEmit s s.cfg.scDown)

/-- `T.SU` (R80). -/
def execTSU (s : State) : Result := carryOut s (gatedEmit s s.cfg.scShiftUp)

/-- `T.SD` (R81). -/
def execTSD (s : State) : Result := carryOut s (gatedEmit s s.cfg.scShiftDown)

/-- `T.HO` (R82). -/
def execTHO (s : State) : Result := carryOut s (gatedEmit s s.cfg.scHold)

/-- `T.EX` (R83). -/
def execTEX (s : State) : Result := carryOut s (gatedEmit s s.cfg.scExecute)

/-- `T.AT` (R84). -/
def execTAT (s : State) : Result := carryOut s (gatedEmit s s.cfg.scAttn)

/-- `T.CA` (R85). -/
def execTCA (s : State) : Result := carryOut s (gatedEmit s s.cfg.scCmdAttn)

/-- `T.CP` (R86). -/
def execTCP (s : State) : Result := carryOut s (gatedEmit s s.cfg.scCmdPlus)

/-- `T.CM` (R87). -/
def execTCM (s : State) : Result := carryOut s (gatedEmit s s.cfg.scCmdMinus)

/-- `T.CS` (R88). -/
def execTCS (s : State) : Result := carryOut s (gatedEmit s s.cfg.scCmdMult)

/-! ## Pause tokens: the operand is the token's own second byte (spec/30_encoding.md R52) -/

/-- `T.D1` (R89). -/
def execTD1 (s : State) : Result := carryOut s (.pause (pauseLength 0x31#8))

/-- `T.D2` (R90). -/
def execTD2 (s : State) : Result := carryOut s (.pause (pauseLength 0x32#8))

/-- `T.D3` (R91). -/
def execTD3 (s : State) : Result := carryOut s (.pause (pauseLength 0x33#8))

/-- `T.D4` (R92). -/
def execTD4 (s : State) : Result := carryOut s (.pause (pauseLength 0x34#8))

/-- `T.D5` (R93). -/
def execTD5 (s : State) : Result := carryOut s (.pause (pauseLength 0x35#8))

/-- `T.D6` (R94). -/
def execTD6 (s : State) : Result := carryOut s (.pause (pauseLength 0x36#8))

/-- `T.D7` (R95). -/
def execTD7 (s : State) : Result := carryOut s (.pause (pauseLength 0x37#8))

/-- `T.D8` (R96). -/
def execTD8 (s : State) : Result := carryOut s (.pause (pauseLength 0x38#8))

/-- `T.D9` (R97). -/
def execTD9 (s : State) : Result := carryOut s (.pause (pauseLength 0x39#8))

/-! ## Gate tokens: they set the gate, whatever its value, and never invert it (C3) -/

/-- `T.E0` (R98). -/
def execTE0 (s : State) : Result := carryOut (s.setGate .disabled) .none

/-- `T.E1` (R99). -/
def execTE1 (s : State) : Result := carryOut (s.setGate .enabled) .none

/-! ## The inert default -/

/-- `T.INERT` (R100). -/
def execTInert (s : State) : Result := carryOut s .none

/-- The meaning of the operation `decode_token` chose (R74). It never chooses a byte operation
(`decodeToken_isByteOp`); those arms, which no run reaches, do what the inert token does. -/
def runToken (i : Instr) (s : State) : Result :=
  match i with
  | .tLE => execTLE s
  | .tRI => execTRI s
  | .tUP => execTUP s
  | .tDO => execTDO s
  | .tSU => execTSU s
  | .tSD => execTSD s
  | .tHO => execTHO s
  | .tEX => execTEX s
  | .tAT => execTAT s
  | .tCA => execTCA s
  | .tCP => execTCP s
  | .tCM => execTCM s
  | .tCS => execTCS s
  | .tD1 => execTD1 s
  | .tD2 => execTD2 s
  | .tD3 => execTD3 s
  | .tD4 => execTD4 s
  | .tD5 => execTD5 s
  | .tD6 => execTD6 s
  | .tD7 => execTD7 s
  | .tD8 => execTD8 s
  | .tD9 => execTD9 s
  | .tE0 => execTE0 s
  | .tE1 => execTE1 s
  | .tInert => execTInert s
  | .nOpen | .nKey _ | .nDrop _ | .eClose | .eAppend _ => execTInert s

end Sys2Proof.Machine
end

