-- ==== Sys2Proof/Machine/ByteOps.lean ====
section
/-! DEFINITION. The byte operations of the escape parser and translation engine (spec/42_escape_parser.md): each meaning is
the operation's effect and the carrying out of its action (R66). Taking the byte from the input is the step's (Fetch.lean). -/

namespace Sys2Proof.Machine

/-- `N.OPEN` (R67). -/
def execNOpen (s : State) : Result := carryOut (s.setMode .escape).clearBuffer .none

/-- `N.KEY` (R68): `c = CODE_TABLE[b]`. The decoder gives it only a mapped byte; for an unmapped one it does what
`translate` does with that byte (R66; log 8). -/
def execNKey (b : Byte) (s : State) : Result :=
  match lookup s.cfg b with
  | some c => carryOut s (gatedEmit s c)
  | none => carryOut s .none

/-- `N.DROP` (R69): error class (a), silently dropped (spec/60_exceptions.md R116). -/
def execNDrop (_b : Byte) (s : State) : Result := carryOut s .none

/-- `E.APPEND` (R70): overflow overwrites the last slot (spec/60_exceptions.md R118). -/
def execEAppend (b : Byte) (s : State) : Result := carryOut (s.append b) .none

/-- `mode <- Normal` and the buffer discarded: the parser's part of `E.CLOSE` (R71). -/
def State.closeSequence (s : State) : State := (s.setMode .normal).clearBuffer

/-- The operation a closing `^` selects, from the buffer as it stands (R71, spec/30_encoding.md R50). -/
def State.closingToken (s : State) : Instr :=
  decodeToken s.cfg s.tokenValid (tokenWord s.tokenBytes.1 s.tokenBytes.2)

/-- `E.CLOSE` (R71), one atomic step: the token is decoded from the buffer, the mode returns to `Normal`, the buffer is
discarded, and the token's operation is done. No token operation reads the mode or the buffer, so discarding the buffer
before the operation or after it is the same (DEDUCED, safe: log 8). -/
def execEClose (s : State) : Result := runToken s.closingToken s.closeSequence

end Sys2Proof.Machine
end

