-- ==== Sys2Proof/Machine/Dispatch.lean ====
section
/-! DEFINITION. One arm per operation of the opcode table. -/

namespace Sys2Proof.Machine

def exec (i : Instr) (s : State) : Host.Outcome State Fault Refusal :=
  match i with
  | .nOpen => Sys2Proof.Machine.execNOpen s
  | .nKey b => Sys2Proof.Machine.execNKey b s
  | .nDrop b => Sys2Proof.Machine.execNDrop b s
  | .eClose => Sys2Proof.Machine.execEClose s
  | .eAppend b => Sys2Proof.Machine.execEAppend b s
  | .tLE => Sys2Proof.Machine.execTLE s
  | .tRI => Sys2Proof.Machine.execTRI s
  | .tUP => Sys2Proof.Machine.execTUP s
  | .tDO => Sys2Proof.Machine.execTDO s
  | .tSU => Sys2Proof.Machine.execTSU s
  | .tSD => Sys2Proof.Machine.execTSD s
  | .tHO => Sys2Proof.Machine.execTHO s
  | .tEX => Sys2Proof.Machine.execTEX s
  | .tAT => Sys2Proof.Machine.execTAT s
  | .tCA => Sys2Proof.Machine.execTCA s
  | .tCP => Sys2Proof.Machine.execTCP s
  | .tCM => Sys2Proof.Machine.execTCM s
  | .tCS => Sys2Proof.Machine.execTCS s
  | .tD1 => Sys2Proof.Machine.execTD1 s
  | .tD2 => Sys2Proof.Machine.execTD2 s
  | .tD3 => Sys2Proof.Machine.execTD3 s
  | .tD4 => Sys2Proof.Machine.execTD4 s
  | .tD5 => Sys2Proof.Machine.execTD5 s
  | .tD6 => Sys2Proof.Machine.execTD6 s
  | .tD7 => Sys2Proof.Machine.execTD7 s
  | .tD8 => Sys2Proof.Machine.execTD8 s
  | .tD9 => Sys2Proof.Machine.execTD9 s
  | .tE0 => Sys2Proof.Machine.execTE0 s
  | .tE1 => Sys2Proof.Machine.execTE1 s
  | .tInert => Sys2Proof.Machine.execTInert s

end Sys2Proof.Machine
end

