-- ==== Sys2Proof/Machine/Fetch.lean ====
section
/-! DEFINITION. Taking the next input byte in `IDLE` (spec/10_state.md R28, R33), and where a table word is placed for the
next step to take it. -/

namespace Sys2Proof.Machine

/-- The operation the next byte selects, with the state after the gap since the last action (spec/00_scope.md R11) and after
that byte is taken; none while no byte is available (spec/42_escape_parser.md R66, spec/30_encoding.md R48). -/
def fetch (s : State) : Option (Instr × State) :=
  match s.input with
  | [] => none
  | b :: rest => some (decodeByte s.cfg (byteWord s.mode.bit b), s.afterGap.setInput rest)

/-- Nothing stands before the next byte: the block is in `IDLE` with no restart requested. -/
def readyForByte (s : State) : State := { s with phase := .idle, resetReq := false }

/-- `s` about to take the word `w`: for format BYTE the mode is `W[8]` and the next byte `W[7:0]`; for format TOKEN the two
bytes of a valid token (or none, for `V = 0`) stand in the buffer of an open sequence and the next byte closes it
(spec/30_encoding.md R48, R50). -/
def placeWord (s : State) : OpWord → State
  | .byte w => { readyForByte s with mode := Mode.ofBit (modeField w), input := byteField w :: s.input }
  | .token v t =>
    let m : Memory := if v then Memory.write (Memory.write [] 0 (firstField t)) 1 (secondField t) else []
    { readyForByte s with mode := .escape, tok := m, tokIdx := if v then 2 else 0, input := caret :: s.input }

end Sys2Proof.Machine
end

