-- ==== Sys2Proof/Machine/Legality.lean ====
section
/-! DEFINITION. Which configurations are legal (spec/60_exceptions.md R120): a configuration that breaks one of these
constraints is refused before any step. -/

namespace Sys2Proof.Machine

/-- The 26 letter pairs of R59(b): upper and lower case have the same entry. -/
def lettersFold (cfg : Config) : Bool :=
  (List.range 26).all fun k => cfg.codeTable.read (0x61 + k) == cfg.codeTable.read (0x41 + k)

/-- A legal `CODE_TABLE` (spec/40_lookup_parity.md R59 (a) to (e)), held in canonical form within its 256 entries. -/
def legalTable (cfg : Config) : Bool :=
  cfg.codeTable.wf && cfg.codeTable.within 256
    && codeEntry cfg caret == 0x00#8
    && lettersFold cfg
    && codeEntry cfg 0x41#8 != 0x00#8
    && codeEntry cfg 0x0D#8 == cfg.scExecute
    && codeEntry cfg 0x0A#8 == cfg.scExecute

/-- The thirteen token scan codes (spec/00_scope.md R8), in the order of its table. -/
def scanCodes (cfg : Config) : List Byte :=
  [cfg.scLeft, cfg.scRight, cfg.scUp, cfg.scDown, cfg.scShiftUp, cfg.scShiftDown, cfg.scHold, cfg.scExecute, cfg.scAttn,
   cfg.scCmdAttn, cfg.scCmdPlus, cfg.scCmdMinus, cfg.scCmdMult]

/-- Each is required to be non-zero (R8). -/
def legalCodes (cfg : Config) : Bool := (scanCodes cfg).all (· != 0x00#8)

/-- `TOKEN_CAP >= 3`, `STROBE_HOLD` positive (spec/00_scope.md R9) and between its bounds (spec/70_reset_and_hazards.md
R138); at least one tick a millisecond (log 3). -/
def legalSizes (cfg : Config) : Bool :=
  decide (3 ≤ cfg.tokenCap) && decide (0 < cfg.strobeHold)
    && decide (cfg.tMinPulse < cfg.strobeHold) && decide (cfg.strobeHold < cfg.tKeyRepeat)
    && decide (0 < cfg.ticksPerMs)

/-- A legal configuration (R120). `HAS_SHIFT_ARROWS` may have either value (R10, R101; log 13). -/
def legal (cfg : Config) : Bool := legalTable cfg && legalCodes cfg && legalSizes cfg

end Sys2Proof.Machine
end

