-- ==== Sys2Proof/Machine/Transmitter.lean ====
section
/-! DEFINITION. The strobe transmitter's six bus steps (spec/44_strobe_transmitter.md) and the pause timer
(spec/60_exceptions.md R126): what a step does in each phase other than `IDLE`. Each numbered step is one atomic update of the
bus image (R102) and adds that image to the bus trace; a wait counts `tmr` down by one tick a step (log 3). -/

namespace Sys2Proof.Machine

/-- Assert every data line whose code bit is 0; the others stay as they are (R104). -/
def assertZeroBits (c : Byte) (d : Vector Line 8) : Vector Line 8 :=
  Vector.ofFn fun i => if c.getLsbD i.val = false then .asserted else d[i]

/-- Step 1 (R104). -/
def stepTxData (s : State) : State :=
  ((s.setBus { s.bus with d := assertZeroBits s.txCode s.bus.d }).setPhase .txPar).logImageForDraw

/-- Step 2 (R105): parity is asserted if and only if the parity bit is 0. -/
def stepTxPar (s : State) : State :=
  ((s.setBus { s.bus with p := if s.txPar = false then .asserted else s.bus.p }).setPhase .txStrobeOn).logImageForDraw

/-- Step 3 (R106), and the start of the hold. -/
def stepTxStrobeOn (s : State) : State :=
  (((s.setBus { s.bus with s := .asserted }).setTmr s.cfg.strobeHold).setPhase .txHold).logImage (.strobe s.cfg.strobeHold)

/-- Wait until `tmr` is 0, then go on to `next` (R107, spec/60_exceptions.md R126; spec/10_state.md R29). -/
def waitFor (s : State) (next : Phase) : State :=
  if s.tmr = 0 then s.setPhase next else s.setTmr (s.tmr - 1)

/-- Step 4 (R107): no line changes. -/
def stepTxHold (s : State) : State := waitFor s .txStrobeOff

/-- Step 5 (R108). -/
def stepTxStrobeOff (s : State) : State :=
  ((s.setBus { s.bus with s := .idle }).setPhase .txRelease).logImageForDraw

/-- Step 6 (R109): every data line and parity go idle, and the next byte may be taken. The image's draw is the gap until the
next action (R110, R111). -/
def stepTxRelease (s : State) : State :=
  ((s.setBus { s.bus with d := Vector.replicate 8 .idle, p := .idle }).setPhase .idle).logImageForDraw

/-- A pause runs (spec/60_exceptions.md R126): no line changes. The gap after it is drawn when the next byte is taken
(`State.afterGap`). -/
def stepPause (s : State) : State := waitFor s .idle

end Sys2Proof.Machine
end

