-- ==== Sys2Proof/Machine/Step.lean ====
section
/-! DEFINITION. One step of the block. -/

namespace Sys2Proof.Machine

/-- A step: an illegal configuration is refused before anything (spec/60_exceptions.md R120); a requested restart takes
effect at once, in any phase (spec/70_reset_and_hazards.md R130); otherwise the phase says which step is due
(spec/10_state.md R28). In `IDLE` with no byte available the block waits (spec/60_exceptions.md R128; log 6). -/
def step (s : State) : Host.Outcome State Fault Refusal :=
  if legal s.cfg = false then .refused .illegalConfig
  else if s.resetReq = true then .next (restart s)
  else
    match s.phase with
    | .idle =>
      match fetch s with
      | none => .next s
      | some (i, s') => exec i s'
    | .txData => .next (stepTxData s)
    | .txPar => .next (stepTxPar s)
    | .txStrobeOn => .next (stepTxStrobeOn s)
    | .txHold => .next (stepTxHold s)
    | .txStrobeOff => .next (stepTxStrobeOff s)
    | .txRelease => .next (stepTxRelease s)
    | .pause => .next (stepPause s)

/-- The host's way to place an operation's table word where the next step takes it (log 15). -/
def State.withFetchWord (s : State) (nbits w : Nat) : State := placeWord s (opWordOf nbits w)

end Sys2Proof.Machine
end

