-- ==== Sys2Proof/Safety.lean ====
section
/-! DEFINITION. The terms claims are stated in: several steps, the next states the rules describe, the bus images due in
each phase, and the invariant of the block. -/

namespace Sys2Proof.Machine

/-- `k` steps, stopping at the first fault or refusal. -/
def run : Nat → State → Result
  | 0, s => .next s
  | k + 1, s =>
    match step s with
    | .next t => run k t
    | .fault r => .fault r
    | .refused r => .refused r

/-! ## The next states the rules describe, field by field -/

/-- The action is `None`: nothing is sent (spec/42_escape_parser.md R66). -/
def State.afterNone (s : State) : State := { s with actions := s.actions ++ [.none], phase := .idle }

/-- The action is `Emit(c, parity(c))` and its transmission is due (spec/44_strobe_transmitter.md R103). -/
def State.afterEmit (s : State) (c : Byte) : State :=
  { s with actions := s.actions ++ [.emit c (parity c)], txCode := c, txPar := parity c, phase := .txData }

/-- The code `c` after the Execute Gate (spec/41_execute_gate.md R63). -/
def State.afterGate (s : State) (c : Byte) : State :=
  if c = s.cfg.scExecute ∧ s.gate = .disabled then s.afterNone else s.afterEmit c

/-- The action is `Pause(ms)` and the pause runs (spec/60_exceptions.md R126). -/
def State.afterPause (s : State) (ms : Nat) : State :=
  { s with actions := s.actions ++ [.pause ms], tmr := ms * s.cfg.ticksPerMs, phase := .pause,
           trace := s.trace ++ [(s.bus, .pause ms)] }

/-- The sequence is closed: `Normal`, the buffer discarded (spec/42_escape_parser.md R71). -/
def State.closed (s : State) : State := { s with mode := .normal, tok := [], tokIdx := 0 }

/-- One byte is taken whose action is `None`, its effect on the parser's state apart: the gap since the last action
(spec/00_scope.md R11), then the action. -/
def State.takeNone (s : State) : State := s.afterGap.afterNone

/-! ## Bus images (spec/44_strobe_transmitter.md R111, R112) -/

/-- `D[i]` asserted exactly when `c[i]` = 0. -/
def zeroLines (c : Byte) : Vector Line 8 := Vector.ofFn fun i => if c.getLsbD i.val then .idle else .asserted

/-- `P` asserted exactly when the parity bit is 0. -/
def parityLine (p : Bool) : Line := if p then .idle else .asserted

/-- The bus image that stands in each phase while `(c, p)` is sent: the rows of R111. -/
def dueBus (c : Byte) (p : Bool) : Phase → Bus
  | .idle | .txData | .pause => Bus.released
  | .txPar => { d := zeroLines c, p := .idle, s := .idle }
  | .txStrobeOn | .txRelease => { d := zeroLines c, p := parityLine p, s := .idle }
  | .txHold | .txStrobeOff => { d := zeroLines c, p := parityLine p, s := .asserted }

/-- How many of the nine lines `D[7:0]`, `P` are asserted (R112). -/
def Bus.assertedLines (b : Bus) : Nat :=
  (b.d.toList.filter fun l => l == .asserted).length + (if b.p = .asserted then 1 else 0)

/-- What the target may see: no strobe, or a strobe over an odd number of asserted lines (R112). -/
def Bus.targetOk (b : Bus) : Bool := b.s == .idle || b.assertedLines % 2 == 1

/-! ## What a dictionary row means (spec/43_tokens.md) -/

/-- The row whose word is `w`, whose two bytes in lower case are `lower`, and whose operation is `i`: closing a sequence
whose first two bytes are `w` has the effect `after` on the state with the sequence closed, whatever further bytes the
buffer holds (R75), and so has the operation `i` by itself; the lower-case word is inert (R75). -/
def TokenRow (i : Instr) (w lower : TokenWord) (after : State → State) : Prop :=
  ∀ s : State,
    exec i s = .next (after s) ∧
    decodeToken s.cfg true lower = .tInert ∧
    (i.recognized s.cfg = true →
      decodeToken s.cfg true w = i ∧
      (2 ≤ s.tokIdx → tokenWord (s.tok.read 0) (s.tok.read 1) = w → exec .eClose s = .next (after s.closed)))

/-- A scan-code row: the code, which is never 0x00 in a legal configuration (spec/00_scope.md R8), goes through the
Execute Gate (spec/41_execute_gate.md R63). -/
def ScanRow (i : Instr) (w lower : TokenWord) (code : Config → Byte) : Prop :=
  TokenRow i w lower (fun s => s.afterGate (code s.cfg)) ∧ ∀ cfg : Config, legal cfg = true → code cfg ≠ 0x00#8

/-- A pause row: `ms` milliseconds (spec/30_encoding.md R52). -/
def PauseRow (i : Instr) (w lower : TokenWord) (ms : Nat) : Prop := TokenRow i w lower fun s => s.afterPause ms

/-! ## The invariant -/

/-- An action the rules can produce: an `Emit` of a non-zero code with its own parity (spec/40_lookup_parity.md R61), or a
pause of 100 to 900 ms in steps of 100 (spec/30_encoding.md R52). -/
def Action.ok : Action → Bool
  | .none => true
  | .emit c p => p == parity c && c != 0x00#8
  | .pause ms => decide (100 ≤ ms ∧ ms ≤ 900 ∧ ms % 100 = 0)

/-- The phases of a transmission (spec/10_state.md R28). -/
def Phase.sending : Phase → Bool
  | .idle | .pause => false
  | .txData | .txPar | .txStrobeOn | .txHold | .txStrobeOff | .txRelease => true

/-- The timer's bound in each phase: it runs only in a hold or a pause (spec/10_state.md R29). -/
def timerBound (cfg : Config) : Phase → Nat
  | .txHold => cfg.strobeHold
  | .pause => 900 * cfg.ticksPerMs
  | .idle | .txData | .txPar | .txStrobeOn | .txStrobeOff | .txRelease => 0

/-- The invariant of the block under a legal configuration. -/
structure Inv (s : State) : Prop where
  /-- The configuration is legal (spec/60_exceptions.md R120). -/
  legal : legal s.cfg = true
  /-- The token buffer has its canonical form, inside its `TOKEN_CAP` slots (spec/20_memory.md R37, R42). -/
  tokWf : s.tok.wf = true
  tokWithin : s.tok.within s.cfg.tokenCap = true
  /-- `tok_idx` is 0..TOKEN_CAP (spec/10_state.md R19, R25). -/
  idxLe : s.tokIdx ≤ s.cfg.tokenCap
  /-- No slot ever holds `^` (spec/10_state.md R24). -/
  noCaret : s.tok.all (fun c => c.2 != caret) = true
  /-- Outside a sequence the buffer is clear (spec/42_escape_parser.md R67, R71). -/
  clearInNormal : s.mode = .normal → s.tok = [] ∧ s.tokIdx = 0
  /-- Every action is carried out in `Normal` (spec/42_escape_parser.md R71). -/
  normalWhenBusy : s.phase ≠ .idle → s.mode = .normal
  /-- The lines are those due in the phase; idle outside a transmission (spec/44_strobe_transmitter.md R111, R114). -/
  lines : s.bus = dueBus s.txCode s.txPar s.phase
  /-- What is being sent is a non-zero code with its own parity (spec/40_lookup_parity.md R61). -/
  latch : s.phase.sending = true → s.txPar = parity s.txCode ∧ s.txCode ≠ 0x00#8
  /-- The timer is 0 outside a hold or a pause, and within their length inside (spec/10_state.md R29). -/
  timer : s.tmr ≤ timerBound s.cfg s.phase
  /-- Every action so far is one the rules can produce. -/
  actionsOk : s.actions.all Action.ok = true
  /-- Every bus image so far is one the target may see. -/
  traceOk : s.trace.all (fun e => e.1.targetOk) = true

end Sys2Proof.Machine
end

