-- ==== Sys2Proof/Certificates/Slice0/Obligations.lean ====
section
/-! DEFINITION. The statements for the provers, from the numbered rules of spec/; a docstring says where one rests on a
choice of the model and names the log entry. Where a conclusion is `... = .next t` with the whole next state `t` written
out, it is also the frame: every field `t` does not name, every slot of the token buffer and every entry of the Code Table
among them, is unchanged. -/

open Sys2Proof Sys2Proof.Machine

/-! ## Encoding -/

/-- R49, R51: every instruction an input can select decodes from its own encoding, with every operand at every value.
Which word encodes `T.INERT` is the model's choice (log 9). -/
def Obligations.DecodeEncodeRoundTrip : Prop :=
  ∀ (cfg : Config) (i : Instr), i.wellFormed cfg = true → decode cfg (encode i) = i

/-- R49: each of the 512 words of format BYTE selects exactly one byte operation, which is well formed and carries every bit
of the word. -/
def Obligations.ByteWordsDecodeUniquely : Prop :=
  ∀ (cfg : Config) (w : DecodeWord),
    (decodeByte cfg w).wellFormed cfg = true ∧ (decodeByte cfg w).isByteOp = true ∧
    encode (decodeByte cfg w) = .byte w ∧
    (decodeByte cfg (byteWord false caret) = .nOpen ∧ decodeByte cfg (byteWord true caret) = .eClose) ∧
    ∀ i : Instr, i.wellFormed cfg = true → encode i = .byte w → decodeByte cfg w = i

/-- R50, R51, R53: every token word, valid or not, selects one token operation, which is well formed; it is the inert one, or
the one whose encoding is that very word. -/
def Obligations.TokenWordsDecodeUniquely : Prop :=
  ∀ (cfg : Config) (v : Bool) (t : TokenWord),
    (decodeToken cfg v t).wellFormed cfg = true ∧ (decodeToken cfg v t).isByteOp = false ∧
    (decodeToken cfg v t = .tInert ∨ encode (decodeToken cfg v t) = .token v t) ∧
    ∀ i : Instr, i.wellFormed cfg = true → i ≠ .tInert → encode i = .token v t → decodeToken cfg v t = i

/-- R49, R51: words written out from the encoding tables decode to the operations they stand for, under the test
configuration (log 2). -/
def Obligations.SampleWordsDecode : Prop :=
  decodeByte Config.tc 0b001011110#9 = .nOpen ∧ decodeByte Config.tc 0b001000001#9 = .nKey 0x41#8 ∧
  decodeByte Config.tc 0b001000100#9 = .nDrop 0x44#8 ∧ decodeByte Config.tc 0b101011110#9 = .eClose ∧
  decodeByte Config.tc 0b101010101#9 = .eAppend 0x55#8 ∧
  decodeToken Config.tc true 0b0101010101010000#16 = .tUP ∧ decodeToken Config.tc true 0b0100010000110011#16 = .tD3 ∧
  decodeToken Config.tc true 0b0100010100110000#16 = .tE0 ∧ decodeToken Config.tc true 0b0100010000110000#16 = .tInert ∧
  decodeToken Config.tc false 0b0101010101010000#16 = .tInert

/-- R101: without `HAS_SHIFT_ARROWS`, SU and SD are inert and every other token is unchanged. -/
def Obligations.NarrowDeploymentDropsShiftArrows : Prop :=
  ∀ (cfg : Config) (v : Bool) (t : TokenWord),
    decodeToken { cfg with hasShiftArrows := false } v t =
      if t = 0x5355#16 ∨ t = 0x5344#16 then .tInert else decodeToken { cfg with hasShiftArrows := true } v t

/-! ## Lookup and parity -/

/-- R60: parity is true exactly when the number of 1 bits is odd, which is the exclusive-or of the eight bits. -/
def Obligations.ParityIsOddCountOfOnes : Prop :=
  ∀ v : Byte,
    (parity v = true ↔ popcount v % 2 = 1) ∧
    parity v = (v[7] != (v[6] != (v[5] != (v[4] != (v[3] != (v[2] != (v[1] != v[0])))))))

/-- R59, R62: in a legal configuration `^` is unmapped, letters fold, 'A' is mapped, CR and LF are mapped to Execute, and
the parity table agrees with the parity of the looked-up code. The LF entry and the ASCII values are the spec's own decisions
(D14, G1; log 16). -/
def Obligations.LegalTableLookups : Prop :=
  ∀ cfg : Config, legal cfg = true →
    lookup cfg caret = none ∧
    (∀ k < 26, lookup cfg (BitVec.ofNat 8 (0x61 + k)) = lookup cfg (BitVec.ofNat 8 (0x41 + k))) ∧
    (lookup cfg 0x41#8).isSome = true ∧
    lookup cfg 0x0D#8 = some cfg.scExecute ∧ lookup cfg 0x0A#8 = some cfg.scExecute ∧
    ∀ (b c : Byte), lookup cfg b = some c → c ≠ 0x00#8 ∧ parityEntry cfg b = parity c

/-! ## Byte operations -/

/-- R67: `N.OPEN` is the word 0x05E; it enters `Escape` with every slot 0x00 and the index 0, and sends nothing. -/
def Obligations.NOpenOpensASequence : Prop :=
  ∀ s : State,
    decodeByte s.cfg 0x05E#9 = .nOpen ∧
    exec .nOpen s = .next { s with mode := .escape, tok := [], tokIdx := 0, actions := s.actions ++ [.none], phase := .idle } ∧
    ∀ i : Nat, Memory.read [] i = 0x00#8

/-- R68: `N.KEY` sends the looked-up code, with its own parity, through the Execute Gate; no slot and no flag changes. -/
def Obligations.NKeySendsItsCode : Prop :=
  ∀ (s : State) (b c : Byte), lookup s.cfg b = some c →
    (b ≠ caret → decodeByte s.cfg (byteWord false b) = .nKey b) ∧
    c ≠ 0x00#8 ∧ parityEntry s.cfg b = parity c ∧
    (c = s.cfg.scExecute → s.gate = .disabled → exec (.nKey b) s = .next s.afterNone) ∧
    (c ≠ s.cfg.scExecute ∨ s.gate = .enabled → exec (.nKey b) s = .next (s.afterEmit c))

/-- R69: `N.DROP` leaves no trace but its action `None`. -/
def Obligations.NDropDoesNothing : Prop :=
  ∀ (s : State) (b : Byte),
    (b ≠ caret → lookup s.cfg b = none → decodeByte s.cfg (byteWord false b) = .nDrop b) ∧
    exec (.nDrop b) s = .next s.afterNone

/-- R70: `E.APPEND` stores the byte in the next slot, or in the last one once the cap is reached; every other slot reads as
before, and so does every other field. The slot is the one `State.appendSlot` gives. -/
def Obligations.AppendStoresOneSlot : Prop :=
  ∀ (s : State) (b : Byte), s.tok.wf = true →
    (b ≠ caret → decodeByte s.cfg (byteWord true b) = .eAppend b) ∧
    ∃ t : State, exec (.eAppend b) s = .next t ∧
      (s.tokIdx < s.cfg.tokenCap → s.appendSlot = s.tokIdx ∧ t.tokIdx = s.tokIdx + 1) ∧
      (s.cfg.tokenCap ≤ s.tokIdx → s.appendSlot = s.cfg.tokenCap - 1 ∧ t.tokIdx = s.tokIdx) ∧
      (∀ a : Nat, t.tok.read a = if a = s.appendSlot then b else s.tok.read a) ∧
      t.tok.wf = true ∧
      t = { s with tok := t.tok, tokIdx := t.tokIdx, actions := s.actions ++ [.none], phase := .idle }

/-- R70, R118: once two bytes are stored, no further byte changes which operation the closing `^` selects. -/
def Obligations.OverflowKeepsTheToken : Prop :=
  ∀ (s t : State) (b : Byte), legal s.cfg = true → s.tok.wf = true → 2 ≤ s.tokIdx → exec (.eAppend b) s = .next t →
    t.tok.read 0 = s.tok.read 0 ∧ t.tok.read 1 = s.tok.read 1 ∧ 2 ≤ t.tokIdx ∧ t.closingToken = s.closingToken

/-- R71, R74: `E.CLOSE` returns to `Normal`, discards the buffer, and does the operation the first two stored bytes select
(the inert one when fewer than two are stored, the spec's own decision D6; log 16), all in one step, which always answers. -/
def Obligations.ECloseRunsTheToken : Prop :=
  ∀ s : State, decodeByte s.cfg 0x15E#9 = .eClose ∧ ∃ t : State,
    exec .eClose s = .next t ∧
    exec (decodeToken s.cfg (decide (2 ≤ s.tokIdx)) (tokenWord (s.tok.read 0) (s.tok.read 1))) s.closed = .next t ∧
    t.mode = .normal ∧ t.tok = [] ∧ t.tokIdx = 0 ∧ t.cfg = s.cfg ∧ t.input = s.input ∧ t.bus = s.bus ∧
    t.resetReq = s.resetReq ∧ t.draws = s.draws

/-! ## Token operations -/

/-- R76 to R79: the arrow tokens. -/
def Obligations.ArrowTokensSend : Prop :=
  ScanRow .tLE 0x4C45#16 0x6C65#16 Config.scLeft ∧ ScanRow .tRI 0x5249#16 0x7269#16 Config.scRight ∧
  ScanRow .tUP 0x5550#16 0x7570#16 Config.scUp ∧ ScanRow .tDO 0x444F#16 0x646F#16 Config.scDown

/-- R80, R81: the shift-arrow tokens, recognized exactly when `HAS_SHIFT_ARROWS`. -/
def Obligations.ShiftArrowTokensSend : Prop :=
  ScanRow .tSU 0x5355#16 0x7375#16 Config.scShiftUp ∧ ScanRow .tSD 0x5344#16 0x7364#16 Config.scShiftDown ∧
  ∀ cfg : Config, (Instr.tSU.recognized cfg = cfg.hasShiftArrows) ∧ (Instr.tSD.recognized cfg = cfg.hasShiftArrows)

/-- R82 to R88: the other scan-code tokens. -/
def Obligations.KeyTokensSend : Prop :=
  ScanRow .tHO 0x484F#16 0x686F#16 Config.scHold ∧ ScanRow .tEX 0x4558#16 0x6578#16 Config.scExecute ∧
  ScanRow .tAT 0x4154#16 0x6174#16 Config.scAttn ∧ ScanRow .tCA 0x4341#16 0x6361#16 Config.scCmdAttn ∧
  ScanRow .tCP 0x4350#16 0x6370#16 Config.scCmdPlus ∧ ScanRow .tCM 0x434D#16 0x636D#16 Config.scCmdMinus ∧
  ScanRow .tCS 0x4353#16 0x6373#16 Config.scCmdMult

/-- R89 to R97: the pause tokens, 100 to 900 ms. That the timer counts ticks is the model's choice (log 3). -/
def Obligations.PauseTokensPause : Prop :=
  PauseRow .tD1 0x4431#16 0x6431#16 100 ∧ PauseRow .tD2 0x4432#16 0x6432#16 200 ∧ PauseRow .tD3 0x4433#16 0x6433#16 300 ∧
  PauseRow .tD4 0x4434#16 0x6434#16 400 ∧ PauseRow .tD5 0x4435#16 0x6435#16 500 ∧ PauseRow .tD6 0x4436#16 0x6436#16 600 ∧
  PauseRow .tD7 0x4437#16 0x6437#16 700 ∧ PauseRow .tD8 0x4438#16 0x6438#16 800 ∧ PauseRow .tD9 0x4439#16 0x6439#16 900

/-- R98, R99: E0 disables the gate and E1 enables it, whatever it was, and neither sends anything; `EO` with the letter O is
inert. -/
def Obligations.GateTokensSetTheGate : Prop :=
  TokenRow .tE0 0x4530#16 0x6530#16 (fun s => { s.afterNone with gate := .disabled }) ∧
  TokenRow .tE1 0x4531#16 0x6531#16 (fun s => { s.afterNone with gate := .enabled }) ∧
  ∀ cfg : Config, decodeToken cfg true 0x454F#16 = .tInert

/-- R100: a token with fewer than two bytes, and one whose first two bytes are no key, do nothing but close the sequence. That
fewer than two bytes are inert is the spec's own decision (D6; log 16). -/
def Obligations.InertTokensDoNothing : Prop :=
  ∀ s : State,
    exec .tInert s = .next s.afterNone ∧
    (s.tokIdx < 2 → exec .eClose s = .next s.closed.afterNone) ∧
    (tokenWord (s.tok.read 0) (s.tok.read 1) ∉
        [0x4C45#16, 0x5249#16, 0x5550#16, 0x444F#16, 0x5355#16, 0x5344#16, 0x484F#16, 0x4558#16, 0x4154#16, 0x4341#16,
         0x4350#16, 0x434D#16, 0x4353#16, 0x4431#16, 0x4432#16, 0x4433#16, 0x4434#16, 0x4435#16, 0x4436#16, 0x4437#16,
         0x4438#16, 0x4439#16, 0x4530#16, 0x4531#16] →
      exec .eClose s = .next s.closed.afterNone)

/-! ## All operations -/

/-- R53, R72, R115: every operation, in every state and on every operand, answers a next state with exactly one more action,
and carries it out as that action says; the configuration, the input, the lines and the reset input are untouched. That the
timer counts ticks is the model's choice (log 3). -/
def Obligations.EveryOperationCompletes : Prop :=
  ∀ (i : Instr) (s : State), ∃ (t : State) (a : Action),
    exec i s = .next t ∧ t.actions = s.actions ++ [a] ∧
    t.cfg = s.cfg ∧ t.input = s.input ∧ t.resetReq = s.resetReq ∧ t.bus = s.bus ∧ t.draws = s.draws ∧
    match a with
    | .none => t.phase = .idle ∧ t.txCode = s.txCode ∧ t.txPar = s.txPar ∧ t.tmr = s.tmr ∧ t.trace = s.trace
    | .emit c p => t.phase = .txData ∧ t.txCode = c ∧ t.txPar = p ∧ p = parity c ∧ t.tmr = s.tmr ∧ t.trace = s.trace
    | .pause ms =>
      t.phase = .pause ∧ t.tmr = ms * s.cfg.ticksPerMs ∧ t.trace = s.trace ++ [(s.bus, .pause ms)] ∧
      t.txCode = s.txCode ∧ t.txPar = s.txPar

/-- R22, R23, R37: only N.OPEN and E.CLOSE write the mode, only N.OPEN, E.APPEND and E.CLOSE the buffer, and only E0 and E1
(by themselves, or selected by E.CLOSE) the gate. -/
def Obligations.FlagsAndBufferFrame : Prop :=
  ∀ (i : Instr) (s t : State), exec i s = .next t →
    (i ≠ .nOpen → i ≠ .eClose → t.mode = s.mode) ∧
    (i ≠ .nOpen → i ≠ .eClose → (∀ b, i ≠ .eAppend b) → t.tokIdx = s.tokIdx ∧ ∀ a, t.tok.read a = s.tok.read a) ∧
    (i ≠ .tE0 → i ≠ .tE1 → i ≠ .eClose → t.gate = s.gate) ∧
    (i = .eClose → s.closingToken ≠ .tE0 → s.closingToken ≠ .tE1 → t.gate = s.gate)

/-! ## The step -/

/-- R28, R41, R66: in `IDLE` a step takes the next byte and is `exec` of the operation that byte selects, after the gap since
the last action (`State.afterGap`, log 4). -/
def Obligations.StepRunsTheDecodedOperation : Prop :=
  ∀ (s : State) (b : Byte) (rest : List Byte),
    legal s.cfg = true → s.resetReq = false → s.phase = .idle → s.input = b :: rest →
    step s = exec (decodeByte s.cfg (byteWord s.mode.bit b)) { s.afterGap with input := rest }

/-- R66: which operation each byte selects in each mode; the gap before it is the model's reading of R11 (log 4). -/
def Obligations.TranslateSelectsTheOperation : Prop :=
  ∀ (s : State) (b : Byte) (rest : List Byte),
    legal s.cfg = true → s.resetReq = false → s.phase = .idle → s.input = b :: rest →
    step s =
      match s.mode with
      | .normal =>
        if b = caret then exec .nOpen { s.afterGap with input := rest }
        else match lookup s.cfg b with
          | some _ => exec (.nKey b) { s.afterGap with input := rest }
          | none => exec (.nDrop b) { s.afterGap with input := rest }
      | .escape =>
        if b = caret then exec .eClose { s.afterGap with input := rest } else exec (.eAppend b) { s.afterGap with input := rest }

/-- R11, R110, R111, R126: between the end of an action and the start of the next the standing bus image is held for an OPEN
draw. After an `Emit` that draw is step 6's, and before the first action there is none; after a `None` or a `Pause` a fresh
draw lengthens the last entry of the trace if that is this image held for a draw, and else adds the image, held for the
draw. That a gap is drawn when the next byte is taken, from the counter `draws`, is the model's choice (log 4). -/
def Obligations.GapsBetweenActionsAreDrawn : Prop :=
  ∀ (s : State) (b : Byte) (rest : List Byte),
    legal s.cfg = true → s.resetReq = false → s.phase = .idle → s.input = b :: rest →
    ∃ u : State,
      step s = exec (decodeByte s.cfg (byteWord s.mode.bit b)) { u with input := rest } ∧
      ((s.actions = [] ∨ ∃ c p, s.actions.getLast? = some (.emit c p)) → u = s) ∧
      ((s.actions.getLast? = some .none ∨ ∃ ms, s.actions.getLast? = some (.pause ms)) →
        (∀ l h, s.trace = l ++ [(s.bus, .draw h)] →
          u = { s with trace := l ++ [(s.bus, .draw (h + Config.freeGap s.draws))], draws := s.draws + 1 }) ∧
        ((∀ l h, s.trace ≠ l ++ [(s.bus, .draw h)]) →
          u = { s with trace := s.trace ++ [(s.bus, .draw (Config.freeGap s.draws))], draws := s.draws + 1 }))

/-- R120 (the spec's own decision D22): an illegal configuration is refused before any step, in every state. That every step
looks, a restart's included, is the model's choice (log 14). -/
def Obligations.IllegalConfigurationIsRefused : Prop :=
  ∀ s : State, legal s.cfg = false → step s = .refused .illegalConfig

/-- R8, R9, R59, R120, R138, constraint by constraint: a step is refused for its configuration exactly when the capacity or the
hold is out of its bounds, a token's scan code is 0x00, or an entry of the Code Table is not as R59 (a) to (e) demand. The
last three disjuncts are the model's own: the table's list is not canonical or goes past 256 entries, or no tick is counted
(log 14). D3, D4, D8, D14 and D22 are the spec's own decisions (log 16). -/
def Obligations.BrokenConstraintsAreRefused : Prop :=
  ∀ s : State, step s = .refused .illegalConfig ↔
    (s.cfg.tokenCap < 3 ∨ s.cfg.strobeHold = 0 ∨ s.cfg.strobeHold ≤ s.cfg.tMinPulse ∨ s.cfg.tKeyRepeat ≤ s.cfg.strobeHold) ∨
    (s.cfg.scLeft = 0x00#8 ∨ s.cfg.scRight = 0x00#8 ∨ s.cfg.scUp = 0x00#8 ∨ s.cfg.scDown = 0x00#8 ∨
      s.cfg.scShiftUp = 0x00#8 ∨ s.cfg.scShiftDown = 0x00#8 ∨ s.cfg.scHold = 0x00#8 ∨ s.cfg.scExecute = 0x00#8 ∨
      s.cfg.scAttn = 0x00#8 ∨ s.cfg.scCmdAttn = 0x00#8 ∨ s.cfg.scCmdPlus = 0x00#8 ∨ s.cfg.scCmdMinus = 0x00#8 ∨
      s.cfg.scCmdMult = 0x00#8) ∨
    (codeEntry s.cfg 0x5E#8 ≠ 0x00#8 ∨
      (∃ k < 26, codeEntry s.cfg (BitVec.ofNat 8 (0x61 + k)) ≠ codeEntry s.cfg (BitVec.ofNat 8 (0x41 + k))) ∨
      codeEntry s.cfg 0x41#8 = 0x00#8 ∨ codeEntry s.cfg 0x0D#8 ≠ s.cfg.scExecute ∨
      codeEntry s.cfg 0x0A#8 ≠ s.cfg.scExecute) ∨
    (s.cfg.codeTable.wf = false ∨ s.cfg.codeTable.within 256 = false ∨ s.cfg.ticksPerMs = 0)

/-- R115, R120: under a legal configuration every step answers a next state, so the parity check never faults
(log 11). -/
def Obligations.LegalStepsAlwaysAnswer : Prop :=
  ∀ s : State, legal s.cfg = true → ∃ t : State, step s = .next t ∧ t.cfg = s.cfg

/-- R33, R128, and the model's reading of waiting (log 6): with no byte available in `IDLE` nothing changes. -/
def Obligations.WaitsWithoutInput : Prop :=
  ∀ s : State, legal s.cfg = true → s.resetReq = false → s.phase = .idle → s.input = [] → step s = .next s

/-- R20: no step writes the configuration, a restart included. -/
def Obligations.ConfigurationNeverChanges : Prop :=
  ∀ s t : State, step s = .next t → t.cfg = s.cfg

/-- R28, R44, R122: while an action is carried out no byte is taken, and the parser's state, the gate and the latch stand
still. -/
def Obligations.BusyStepsTakeNoInput : Prop :=
  ∀ s t : State, s.resetReq = false → s.phase ≠ .idle → step s = .next t →
    t.input = s.input ∧ t.actions = s.actions ∧ t.mode = s.mode ∧ t.gate = s.gate ∧ t.tok = s.tok ∧ t.tokIdx = s.tokIdx ∧
    t.txCode = s.txCode ∧ t.txPar = s.txPar ∧ t.resetReq = false

/-- R44, R72: without a restart, a step takes no byte and adds no action, or takes one byte and adds exactly one action; the
gap before that byte apart (log 4), the bus trace grows by at most one entry, and no image of it ever changes. -/
def Obligations.OneActionPerByte : Prop :=
  ∀ s t : State, s.resetReq = false → step s = .next t →
    ((t.input = s.input ∧ t.actions = s.actions) ∨
      ∃ (b : Byte) (a : Action), s.input = b :: t.input ∧ s.phase = .idle ∧ t.actions = s.actions ++ [a]) ∧
    ∃ (u : State) (l : List (Bus × Hold)),
      (u = s ∨ s.phase = .idle ∧ u = s.afterGap) ∧ t.trace = u.trace ++ l ∧ l.length ≤ 1 ∧
      (u.trace.map Prod.fst = s.trace.map Prod.fst ∨ u.trace.map Prod.fst = s.trace.map Prod.fst ++ [s.bus])

/-- R22: only a `^` changes the mode: one in `Normal` sets `Escape`, one in `Escape` sets `Normal`. -/
def Obligations.ModeChangesOnlyOnCaret : Prop :=
  ∀ s t : State, s.resetReq = false → step s = .next t →
    (t.mode ≠ s.mode ↔ s.phase = .idle ∧ s.input.head? = some caret)

/-- R23: only a closing `^` over the token E0 or E1 changes the gate, to the value that token names. -/
def Obligations.GateChangesOnlyOnGateTokens : Prop :=
  ∀ s t : State, s.resetReq = false → step s = .next t → t.gate ≠ s.gate →
    s.phase = .idle ∧ s.input.head? = some caret ∧ s.mode = .escape ∧ 2 ≤ s.tokIdx ∧
    ((tokenWord (s.tok.read 0) (s.tok.read 1) = 0x4530#16 ∧ t.gate = .disabled) ∨
      (tokenWord (s.tok.read 0) (s.tok.read 1) = 0x4531#16 ∧ t.gate = .enabled))

/-- R27, R113, R114: the lines change only in a transmission, and never in `IDLE`, in a hold or in a pause. -/
def Obligations.LinesChangeOnlyInATransmission : Prop :=
  ∀ s t : State, s.resetReq = false → step s = .next t → t.bus ≠ s.bus →
    s.phase.sending = true ∧ s.phase ≠ .txHold

/-- R49, R50, and the model's way to place an operation (log 9, log 15): the step after placing a word runs that word's
operation, after the gap since the last action (log 4); for a token word the sequence is closed as it runs. -/
def Obligations.PlacedWordRunsNext : Prop :=
  ∀ s : State, legal s.cfg = true →
    (∀ w : DecodeWord,
      step (placeWord s (.byte w)) =
        exec (decodeByte s.cfg w)
          (State.afterGap { s with phase := .idle, resetReq := false, mode := if w.getLsbD 8 then .escape else .normal })) ∧
    ∀ (v : Bool) (t : TokenWord),
      step (placeWord s (.token v t)) =
        exec (decodeToken s.cfg v t)
          (State.afterGap { s with phase := .idle, resetReq := false, mode := .normal, tok := [], tokIdx := 0 })

/-! ## Reset -/

/-- R131: what reset leaves, under every configuration. The values of the buffer, latch, lines, phase and timer are the
spec's own decision (D12); the empty input, observation and draw counter are the model's (log 4, log 7, log 15). -/
def Obligations.ResetValues : Prop :=
  ∀ cfg : Config,
    (State.resetWith cfg).mode = .normal ∧ (State.resetWith cfg).gate = .enabled ∧
    (∀ i, (State.resetWith cfg).tok.read i = 0x00#8) ∧ (State.resetWith cfg).tokIdx = 0 ∧
    (State.resetWith cfg).txCode = 0x00#8 ∧ (State.resetWith cfg).txPar = false ∧
    (∀ i : Fin 8, (State.resetWith cfg).bus.d[i] = .idle) ∧ (State.resetWith cfg).bus.p = .idle ∧
    (State.resetWith cfg).bus.s = .idle ∧ (State.resetWith cfg).phase = .idle ∧ (State.resetWith cfg).tmr = 0 ∧
    (State.resetWith cfg).cfg = cfg ∧ (State.resetWith cfg).input = [] ∧ (State.resetWith cfg).actions = [] ∧
    (State.resetWith cfg).trace = []

/-- R130, R132: a requested restart takes effect at the next step, in any phase: every element has its reset value and every
line is idle at once. That the bytes not yet taken stay with the host link and a new run is observed is the model's choice
(log 7). -/
def Obligations.RestartTakesEffectAtOnce : Prop :=
  ∀ s : State, legal s.cfg = true → s.resetReq = true →
    ∃ t : State, step s = .next t ∧ t = { State.resetWith s.cfg with input := s.input, draws := s.draws } ∧
      t.bus = Bus.released ∧ t.phase = .idle ∧ t.mode = .normal ∧ t.gate = .enabled ∧ t.tmr = 0 ∧ t.resetReq = false

/-! ## The bus sequence -/

/-- R104, R105, R106: steps 1 to 3 assert the data lines of the zero bits, parity if the parity bit is 0, and the strobe;
each adds one bus image to the trace and changes nothing else but the phase and, in step 3, the timer. The gap labels `g`
and the draw counter are the model's choice (free values, log 4). -/
def Obligations.BusStepsOneToThree : Prop :=
  ∀ s : State, legal s.cfg = true → s.resetReq = false →
    (s.phase = .txData →
      ∃ (d : Vector Line 8) (g : Nat), (∀ i : Fin 8, d[i] = if s.txCode.getLsbD i = false then .asserted else s.bus.d[i]) ∧
        step s = .next { s with bus := { s.bus with d := d }, phase := .txPar, draws := s.draws + 1,
                                trace := s.trace ++ [({ s.bus with d := d }, .draw g)] }) ∧
    (s.phase = .txPar →
      ∃ (p : Line) (g : Nat), (p = if s.txPar = false then .asserted else s.bus.p) ∧
        step s = .next { s with bus := { s.bus with p := p }, phase := .txStrobeOn, draws := s.draws + 1,
                                trace := s.trace ++ [({ s.bus with p := p }, .draw g)] }) ∧
    (s.phase = .txStrobeOn →
      step s = .next { s with bus := { s.bus with s := .asserted }, tmr := s.cfg.strobeHold, phase := .txHold,
                              trace := s.trace ++ [({ s.bus with s := .asserted }, .strobe s.cfg.strobeHold)] })

/-- R108, R109: step 5 releases the strobe, step 6 releases data and parity and goes back to `IDLE`. The gap labels
`g` and the draw counter are the model's choice (free values, log 4). -/
def Obligations.BusStepsFiveAndSix : Prop :=
  ∀ s : State, legal s.cfg = true → s.resetReq = false →
    (s.phase = .txStrobeOff →
      ∃ g : Nat, step s = .next { s with bus := { s.bus with s := .idle }, phase := .txRelease, draws := s.draws + 1,
                                         trace := s.trace ++ [({ s.bus with s := .idle }, .draw g)] }) ∧
    (s.phase = .txRelease →
      ∃ (d : Vector Line 8) (g : Nat), (∀ i : Fin 8, d[i] = .idle) ∧
        (s.bus.s = .idle → { s.bus with d := d, p := .idle } = Bus.released) ∧
        step s = .next { s with bus := { s.bus with d := d, p := .idle }, phase := .idle, draws := s.draws + 1,
                                trace := s.trace ++ [({ s.bus with d := d, p := .idle }, .draw g)] })

/-- R29, R107, R126, counted in ticks (log 3): a hold or a pause counts the timer down one tick a step and changes nothing
else until the timer is 0; then the next phase begins. -/
def Obligations.HoldAndPauseCountDown : Prop :=
  ∀ s : State, legal s.cfg = true → s.resetReq = false →
    (s.phase = .txHold ∨ s.phase = .pause → 0 < s.tmr → step s = .next { s with tmr := s.tmr - 1 }) ∧
    (s.phase = .txHold → s.tmr = 0 → step s = .next { s with phase := .txStrobeOff }) ∧
    (s.phase = .pause → s.tmr = 0 → step s = .next { s with phase := .idle })

/-- R102, R111: one transmission of `(c, p)` adds exactly the five bus images of R111's table to the trace, the third held
for `STROBE_HOLD`, ends with every line idle and `phase = IDLE`, and changes nothing else. It takes `STROBE_HOLD + 6`
steps of the model (one tick a step, log 3); the gap labels are free values (log 4). -/
def Obligations.OneTransmissionIsFiveImages : Prop :=
  ∀ s : State, legal s.cfg = true → s.resetReq = false → s.phase = .txData → s.bus = Bus.released →
    ∃ g₁ g₂ g₃ g₄ : Nat,
      run (s.cfg.strobeHold + 6) s =
        .next { s with
          phase := .idle, tmr := 0, draws := s.draws + 4,
          trace := s.trace ++
            [({ d := zeroLines s.txCode, p := .idle, s := .idle }, .draw g₁),
             ({ d := zeroLines s.txCode, p := parityLine s.txPar, s := .idle }, .draw g₂),
             ({ d := zeroLines s.txCode, p := parityLine s.txPar, s := .asserted }, .strobe s.cfg.strobeHold),
             ({ d := zeroLines s.txCode, p := parityLine s.txPar, s := .idle }, .draw g₃),
             (Bus.released, .draw g₄)] }

/-- R126: a pause runs for its whole length and ends in `IDLE` with nothing else changed. One tick a step is the
model's choice (log 3). -/
def Obligations.PauseRunsToItsEnd : Prop :=
  ∀ s : State, legal s.cfg = true → s.resetReq = false → s.phase = .pause →
    run (s.tmr + 1) s = .next { s with tmr := 0, phase := .idle } ∧
    ∀ k ≤ s.tmr, run k s = .next { s with tmr := s.tmr - k }

/-- R44, R141: every action ends: from any state the block is back in `IDLE` within a bounded number of steps, without
having taken a byte or produced an action. The bound counts the model's steps (log 3). -/
def Obligations.EveryActionEnds : Prop :=
  ∀ s : State, legal s.cfg = true → s.resetReq = false →
    ∃ k ≤ s.tmr + s.cfg.strobeHold + 6, ∃ t : State,
      run k s = .next t ∧ t.phase = .idle ∧ t.input = s.input ∧ t.actions = s.actions ∧ t.mode = s.mode ∧ t.gate = s.gate

/-! ## Sequences -/

/-- R54, R70, R71, R75, R118: a whole escape sequence, of any length, sends nothing for its opening `^` and its inner bytes,
and its closing `^` does the operation its first two bytes select (the inert one when there are fewer than two), with the
buffer discarded and the mode `Normal`. Each byte's gap before it is the model's reading of R11 (log 4). -/
def Obligations.SequenceIsItsFirstTwoBytes : Prop :=
  ∀ (s : State) (xs rest : List Byte),
    legal s.cfg = true → s.resetReq = false → s.phase = .idle → s.mode = .normal →
    (∀ x ∈ xs, x ≠ caret) → s.input = caret :: (xs ++ caret :: rest) →
    run (xs.length + 2) s =
      exec (decodeToken s.cfg (decide (2 ≤ xs.length)) (tokenWord (xs.getD 0 0x00#8) (xs.getD 1 0x00#8)))
        { (Nat.iterate State.takeNone (xs.length + 1) s).afterGap with tok := [], tokIdx := 0, input := rest } ∧
    (Nat.iterate State.takeNone (xs.length + 1) s).actions = s.actions ++ List.replicate (xs.length + 1) Action.none

/-- R70, R139: in an open sequence every byte that is not `^`, CR and letters among them, is appended to the buffer as
`State.append` has it and sends nothing, however many come; the mode stays `Escape` and the gate and the lines stay as they
are. Each byte's gap before it is the model's reading of R11 (log 4). -/
def Obligations.OpenSequenceSwallowsText : Prop :=
  ∀ (s : State) (xs rest : List Byte),
    legal s.cfg = true → s.resetReq = false → s.phase = .idle → s.mode = .escape →
    (∀ x ∈ xs, x ≠ caret) → s.input = xs ++ rest →
    run xs.length s =
      .next { Nat.iterate State.takeNone xs.length s with
        tok := (xs.foldl State.append s).tok, tokIdx := (xs.foldl State.append s).tokIdx, input := rest } ∧
    (Nat.iterate State.takeNone xs.length s).actions = s.actions ++ List.replicate xs.length Action.none ∧
    (Nat.iterate State.takeNone xs.length s).mode = .escape ∧ (Nat.iterate State.takeNone xs.length s).gate = s.gate ∧
    (Nat.iterate State.takeNone xs.length s).bus = s.bus

/-! ## The Execute Gate -/

/-- R59(d), R59(e), R63: CR and LF in `Normal` are the Execute code through the gate: one Execute event when it is enabled,
none when it is disabled. The LF entry and the ASCII values are the spec's own decisions (D14, G1; log 16). -/
def Obligations.ReturnBytesGoThroughTheGate : Prop :=
  ∀ (s : State) (b : Byte) (rest : List Byte),
    legal s.cfg = true → s.resetReq = false → s.phase = .idle → s.mode = .normal → s.input = b :: rest →
    b = 0x0D#8 ∨ b = 0x0A#8 →
    (s.gate = .enabled → step s = .next (State.afterEmit { s.afterGap with input := rest } s.cfg.scExecute)) ∧
    (s.gate = .disabled → step s = .next (State.afterNone { s.afterGap with input := rest }))

/-- R65, R140: while the gate is disabled no step adds an Execute event. -/
def Obligations.DisabledGateSendsNoExecute : Prop :=
  ∀ s t : State, s.gate = .disabled → step s = .next t →
    ∀ p : Bool, t.actions ≠ s.actions ++ [.emit s.cfg.scExecute p]

/-- R65: the gate decides nothing but the Execute code: an operation that does not send it with the gate enabled does the
same with the gate disabled, and one that does sends nothing instead and changes nothing. -/
def Obligations.GateOnlyAffectsExecute : Prop :=
  ∀ (i : Instr) (s t : State), exec i { s with gate := .enabled } = .next t →
    ∃ u : State, exec i { s with gate := .disabled } = .next u ∧
      ((∀ p, t.actions ≠ s.actions ++ [.emit s.cfg.scExecute p]) →
        { u with gate := .enabled } = { t with gate := .enabled }) ∧
      ((∃ p, t.actions = s.actions ++ [.emit s.cfg.scExecute p]) →
        u.actions = s.actions ++ [.none] ∧ u.phase = .idle ∧ u.gate = .disabled ∧ u.mode = t.mode ∧ u.tok = t.tok ∧
        u.tokIdx = t.tokIdx ∧ u.txCode = s.txCode ∧ u.txPar = s.txPar ∧ u.tmr = s.tmr ∧ u.trace = s.trace)

/-! ## What is never read -/

/-- R24, R32: slots 2 and above are never read: two states that differ only there step to states that differ only there. -/
def Obligations.LaterSlotsAreNeverRead : Prop :=
  ∀ (s t : State) (m : Memory), s.tok.wf = true → m.wf = true → m.read 0 = s.tok.read 0 → m.read 1 = s.tok.read 1 →
    step s = .next t →
    ∃ u : State, step { s with tok := m } = .next u ∧ { u with tok := t.tok } = t ∧
      u.tok.read 0 = t.tok.read 0 ∧ u.tok.read 1 = t.tok.read 1

/-! ## Invariants -/

/-- R24, R25, R27, R28, R29, R61, R103, R112, R113: the invariant holds of the reset state, under every legal configuration
and under the one `State.reset` names (log 2). -/
def Obligations.InvariantAtReset : Prop :=
  (∀ cfg : Config, legal cfg = true → Inv (State.resetWith cfg)) ∧ Inv State.reset

/-- The same rules: every step keeps the invariant: the buffer's form and bounds, no `^` stored, a clear buffer in `Normal`,
`Normal` while busy, the lines due in the phase, the latch's parity, the timer's bound, and that every action and every bus
image so far is one the rules allow. The timer's bound in ticks and the observation in the state are the model's (log 3, log 5). -/
def Obligations.EveryStepKeepsTheInvariant : Prop :=
  ∀ s t : State, Inv s → step s = .next t → Inv t

/-- R61: every `Emit` a step adds is a non-zero code with its own parity, and every pause is 100 to 900 ms in steps of 100,
in every state of a legal configuration. -/
def Obligations.EveryActionIsLawful : Prop :=
  ∀ (s t : State) (a : Action), step s = .next t → t.actions = s.actions ++ [a] → a.ok = true

/-- R112: whenever the strobe is asserted, the number of asserted lines among `D[7:0]`, `P` is odd. -/
def Obligations.StrobedLinesAreOdd : Prop :=
  ∀ s t : State, Inv s → step s = .next t → t.bus.s = .asserted → t.bus.assertedLines % 2 = 1
end

