-- ==== Sys2Proof/Laws/Decode.lean ====
section
/-! SUPPORT. The fields of the two formats' words, and what the decoder can answer. -/

namespace Sys2Proof

@[simp] theorem modeField_byteWord (m : Bool) (b : Byte) : modeField (byteWord m b) = m := by
  change BitVec.getLsbD (BitVec.ofBool m ++ b) 8 = m
  rw [BitVec.getLsbD_append]
  cases m <;> simp

@[simp] theorem byteField_byteWord (m : Bool) (b : Byte) : byteField (byteWord m b) = b := by
  ext i hi
  simp only [byteField, byteWord, BitVec.getElem_extractLsb', BitVec.getLsbD_append]
  simp [hi]

/-- A word of format BYTE is its mode bit and its byte. -/
theorem byteWord_fields (w : DecodeWord) : byteWord (modeField w) (byteField w) = w := by
  ext i hi
  simp only [byteField, modeField, byteWord]
  rw [← BitVec.getLsbD_eq_getElem, ← BitVec.getLsbD_eq_getElem, BitVec.getLsbD_append]
  by_cases h : i < 8
  · simp [h]
  · have : i = 8 := by omega
    subst this
    simp

@[simp] theorem firstField_tokenWord (a b : Byte) : firstField (tokenWord a b) = a := by
  ext i hi
  simp only [firstField, tokenWord, BitVec.getElem_extractLsb', BitVec.getLsbD_append]
  simp [show ¬ 8 + i < 8 by omega, BitVec.getLsbD_eq_getElem hi]

@[simp] theorem secondField_tokenWord (a b : Byte) : secondField (tokenWord a b) = b := by
  ext i hi
  simp only [secondField, tokenWord, BitVec.getElem_extractLsb', BitVec.getLsbD_append]
  simp [hi]

/-- A word of format TOKEN is its two bytes. -/
theorem tokenWord_fields (t : TokenWord) : tokenWord (firstField t) (secondField t) = t := by
  ext i hi
  simp only [tokenWord, firstField, secondField]
  rw [← BitVec.getLsbD_eq_getElem, ← BitVec.getLsbD_eq_getElem, BitVec.getLsbD_append]
  by_cases h : i < 8
  · simp [h]
  · simp [h, show 8 + (i - 8) = i by omega, show i - 8 < 8 by omega]

/-- A keyed row holds a token operation whose encoding is that row's word. -/
theorem keyedToken_row {t : TokenWord} {i : Instr} (h : keyedToken t = some i) :
    i.isByteOp = false ∧ encode i = .token true t := by
  have hall : ∀ r ∈ tokenTable, r.2.isByteOp = false ∧ encode r.2 = .token true r.1 := by decide
  simp only [keyedToken, Option.map_eq_some_iff] at h
  obtain ⟨r, hr, rfl⟩ := h
  have hmem := List.mem_of_find?_eq_some hr
  have hkey := List.find?_some hr
  have hrt : r.1 = t := by simpa using hkey
  subst hrt
  exact hall r hmem

/-- `decode_token` answers the keyed row's operation or `T.INERT`. -/
theorem decodeToken_cases (cfg : Config) (v : Bool) (t : TokenWord) :
    (v = true ∧ keyedToken t = some (decodeToken cfg v t)) ∨ decodeToken cfg v t = .tInert := by
  unfold decodeToken
  cases v with
  | false => simp
  | true =>
    cases h : keyedToken t with
    | none => simp
    | some i => by_cases hr : i.recognized cfg = true <;> simp [hr]

/-- The closing `^` never selects a byte operation. -/
theorem decodeToken_isByteOp (cfg : Config) (v : Bool) (t : TokenWord) : (decodeToken cfg v t).isByteOp = false := by
  rcases decodeToken_cases cfg v t with ⟨-, h⟩ | h
  · exact (keyedToken_row h).1
  · rw [h]; rfl

end Sys2Proof
end

