-- ==== Sys2Proof/Laws/Memory.lean ====
section
/-! SUPPORT. The laws of the storage spaces: a read after a write, and that every operation keeps the canonical form. -/

namespace Sys2Proof.Machine

@[simp] theorem Memory.read_nil (a : Nat) : Memory.read [] a = Memory.unlisted := rfl

theorem Memory.read_cons (k : Nat) (v : BitVec 8) (m : Memory) (a : Nat) :
    Memory.read ((k, v) :: m) a = if a = k then v else Memory.read m a := rfl

@[simp] theorem Memory.wf_nil : Memory.wf [] = true := rfl

theorem Memory.wf_cons (k : Nat) (v : BitVec 8) (m : Memory) :
    Memory.wf ((k, v) :: m) = true ↔
      v ≠ Memory.unlisted ∧ (∀ c ∈ m, k < c.1) ∧ Memory.wf m = true := by
  simp [Memory.wf, and_assoc]

/-- An index below every listed one reads the unlisted value. -/
theorem Memory.read_of_below {m : Memory} {a : Nat} (h : ∀ c ∈ m, a < c.1) : m.read a = Memory.unlisted := by
  induction m with
  | nil => rfl
  | cons c m ih =>
    obtain ⟨k, v⟩ := c
    have hk : a < k := h (k, v) (by simp)
    rw [Memory.read_cons, if_neg (Nat.ne_of_lt hk)]
    exact ih fun c hc => h c (by simp [hc])

/-- Every cell of a written memory is the written one or an old one. -/
theorem Memory.mem_write {m : Memory} {a : Nat} {v : BitVec 8} {c : Host.Cell} (h : c ∈ m.write a v) :
    c = (a, v) ∨ c ∈ m := by
  induction m with
  | nil => simp only [Memory.write] at h; split at h <;> simp_all
  | cons d m ih =>
    obtain ⟨k, w⟩ := d
    simp only [Memory.write] at h
    split at h
    · split at h <;> simp_all
    · split at h
      · split at h
        · exact .inr (List.mem_cons_of_mem _ h)
        · rcases List.mem_cons.mp h with h | h
          · exact .inl h
          · exact .inr (List.mem_cons_of_mem _ h)
      · rcases List.mem_cons.mp h with rfl | h
        · simp
        · rcases ih h with h | h <;> simp [h]

/-- A write keeps the canonical form. -/
theorem Memory.write_wf {m : Memory} (a : Nat) (v : BitVec 8) (h : m.wf = true) : (m.write a v).wf = true := by
  induction m with
  | nil => simp only [Memory.write]; split <;> simp_all [Memory.wf_cons]
  | cons c m ih =>
    obtain ⟨k, w⟩ := c
    obtain ⟨hw, hk, hm⟩ := (Memory.wf_cons k w m).mp h
    simp only [Memory.write]
    split
    · rename_i hlt
      split
      · exact h
      · refine (Memory.wf_cons _ _ _).mpr ⟨‹_›, ?_, h⟩
        intro c hc
        rcases List.mem_cons.mp hc with rfl | hc
        · exact hlt
        · exact Nat.lt_trans hlt (hk c hc)
    · split
      · rename_i heq
        subst heq
        split
        · exact hm
        · exact (Memory.wf_cons _ _ _).mpr ⟨‹_›, hk, hm⟩
      · refine (Memory.wf_cons _ _ _).mpr ⟨hw, ?_, ih hm⟩
        intro c hc
        rcases Memory.mem_write hc with rfl | hc
        · exact Nat.lt_of_le_of_ne (Nat.le_of_not_lt ‹_›) (Ne.symm ‹_›)
        · exact hk c hc

/-- Reading any index after a write: the value written there, and elsewhere what was there before. -/
theorem Memory.read_write {m : Memory} (a : Nat) (v : BitVec 8) (h : m.wf = true) (x : Nat) :
    (m.write a v).read x = if x = a then v else m.read x := by
  induction m with
  | nil =>
    simp only [Memory.write]
    split
    · simp_all
    · simp [Memory.read_cons]
  | cons c m ih =>
    obtain ⟨k, w⟩ := c
    obtain ⟨hw, hk, hm⟩ := (Memory.wf_cons k w m).mp h
    simp only [Memory.write]
    split
    · rename_i hlt
      split
      · rename_i hv
        split
        · subst hv
          subst_vars
          refine Memory.read_of_below fun c hc => ?_
          rcases List.mem_cons.mp hc with rfl | hc
          · exact hlt
          · exact Nat.lt_trans hlt (hk c hc)
        · rfl
      · rw [Memory.read_cons]
    · split
      · rename_i heq
        subst heq
        split
        · rename_i hv
          subst hv
          by_cases hx : x = a
          · subst hx; simpa using Memory.read_of_below hk
          · simp [Memory.read_cons, hx]
        · simp only [Memory.read_cons]; split <;> rfl
      · simp only [Memory.read_cons, ih hm]
        split
        · subst_vars
          rw [if_neg (Ne.symm ‹_›)]
        · rfl

/-- A write inside the space keeps the listed indices inside it. -/
theorem Memory.write_within {m : Memory} {a n : Nat} (v : BitVec 8) (ha : a < n) (h : m.within n = true) :
    (m.write a v).within n = true := by
  simp only [Memory.within, List.all_eq_true, decide_eq_true_eq] at h ⊢
  intro c hc
  rcases Memory.mem_write hc with rfl | hc
  · exact ha
  · exact h c hc

/-- Clearing and appending keep the token buffer's canonical form. -/
theorem State.clearBuffer_wf (s : State) : s.clearBuffer.tok.wf = true := rfl

theorem State.append_wf {s : State} (b : Byte) (h : s.tok.wf = true) : (s.append b).tok.wf = true :=
  Memory.write_wf s.appendSlot b h

/-- The reset memory has the canonical form, and so has the reset configuration's Code Table. -/
theorem State.resetWith_tok_wf (cfg : Config) : (State.resetWith cfg).tok.wf = true := rfl

theorem State.reset_codeTable_wf : State.reset.cfg.codeTable.wf = true := by decide

end Sys2Proof.Machine
end

