-- ==== Sys2Proof/Laws/State.lean ====
section
/-! SUPPORT. What each update of the state does to each field, so that no later proof unfolds a record update. -/

namespace Sys2Proof.Machine

variable (s : State)

/-! ### `setMode` -/

@[simp] theorem State.setMode_cfg (m : Mode) : (s.setMode m).cfg = s.cfg := rfl
@[simp] theorem State.setMode_mode (m : Mode) : (s.setMode m).mode = m := rfl
@[simp] theorem State.setMode_gate (m : Mode) : (s.setMode m).gate = s.gate := rfl
@[simp] theorem State.setMode_tok (m : Mode) : (s.setMode m).tok = s.tok := rfl
@[simp] theorem State.setMode_tokIdx (m : Mode) : (s.setMode m).tokIdx = s.tokIdx := rfl
@[simp] theorem State.setMode_txCode (m : Mode) : (s.setMode m).txCode = s.txCode := rfl
@[simp] theorem State.setMode_txPar (m : Mode) : (s.setMode m).txPar = s.txPar := rfl
@[simp] theorem State.setMode_bus (m : Mode) : (s.setMode m).bus = s.bus := rfl
@[simp] theorem State.setMode_phase (m : Mode) : (s.setMode m).phase = s.phase := rfl
@[simp] theorem State.setMode_tmr (m : Mode) : (s.setMode m).tmr = s.tmr := rfl
@[simp] theorem State.setMode_input (m : Mode) : (s.setMode m).input = s.input := rfl
@[simp] theorem State.setMode_resetReq (m : Mode) : (s.setMode m).resetReq = s.resetReq := rfl
@[simp] theorem State.setMode_actions (m : Mode) : (s.setMode m).actions = s.actions := rfl
@[simp] theorem State.setMode_trace (m : Mode) : (s.setMode m).trace = s.trace := rfl
@[simp] theorem State.setMode_draws (m : Mode) : (s.setMode m).draws = s.draws := rfl

/-! ### `setGate` -/

@[simp] theorem State.setGate_cfg (g : Gate) : (s.setGate g).cfg = s.cfg := rfl
@[simp] theorem State.setGate_mode (g : Gate) : (s.setGate g).mode = s.mode := rfl
@[simp] theorem State.setGate_gate (g : Gate) : (s.setGate g).gate = g := rfl
@[simp] theorem State.setGate_tok (g : Gate) : (s.setGate g).tok = s.tok := rfl
@[simp] theorem State.setGate_tokIdx (g : Gate) : (s.setGate g).tokIdx = s.tokIdx := rfl
@[simp] theorem State.setGate_txCode (g : Gate) : (s.setGate g).txCode = s.txCode := rfl
@[simp] theorem State.setGate_txPar (g : Gate) : (s.setGate g).txPar = s.txPar := rfl
@[simp] theorem State.setGate_bus (g : Gate) : (s.setGate g).bus = s.bus := rfl
@[simp] theorem State.setGate_phase (g : Gate) : (s.setGate g).phase = s.phase := rfl
@[simp] theorem State.setGate_tmr (g : Gate) : (s.setGate g).tmr = s.tmr := rfl
@[simp] theorem State.setGate_input (g : Gate) : (s.setGate g).input = s.input := rfl
@[simp] theorem State.setGate_resetReq (g : Gate) : (s.setGate g).resetReq = s.resetReq := rfl
@[simp] theorem State.setGate_actions (g : Gate) : (s.setGate g).actions = s.actions := rfl
@[simp] theorem State.setGate_trace (g : Gate) : (s.setGate g).trace = s.trace := rfl
@[simp] theorem State.setGate_draws (g : Gate) : (s.setGate g).draws = s.draws := rfl

/-! ### `setTok` -/

@[simp] theorem State.setTok_cfg (m : Memory) : (s.setTok m).cfg = s.cfg := rfl
@[simp] theorem State.setTok_mode (m : Memory) : (s.setTok m).mode = s.mode := rfl
@[simp] theorem State.setTok_gate (m : Memory) : (s.setTok m).gate = s.gate := rfl
@[simp] theorem State.setTok_tok (m : Memory) : (s.setTok m).tok = m := rfl
@[simp] theorem State.setTok_tokIdx (m : Memory) : (s.setTok m).tokIdx = s.tokIdx := rfl
@[simp] theorem State.setTok_txCode (m : Memory) : (s.setTok m).txCode = s.txCode := rfl
@[simp] theorem State.setTok_txPar (m : Memory) : (s.setTok m).txPar = s.txPar := rfl
@[simp] theorem State.setTok_bus (m : Memory) : (s.setTok m).bus = s.bus := rfl
@[simp] theorem State.setTok_phase (m : Memory) : (s.setTok m).phase = s.phase := rfl
@[simp] theorem State.setTok_tmr (m : Memory) : (s.setTok m).tmr = s.tmr := rfl
@[simp] theorem State.setTok_input (m : Memory) : (s.setTok m).input = s.input := rfl
@[simp] theorem State.setTok_resetReq (m : Memory) : (s.setTok m).resetReq = s.resetReq := rfl
@[simp] theorem State.setTok_actions (m : Memory) : (s.setTok m).actions = s.actions := rfl
@[simp] theorem State.setTok_trace (m : Memory) : (s.setTok m).trace = s.trace := rfl
@[simp] theorem State.setTok_draws (m : Memory) : (s.setTok m).draws = s.draws := rfl

/-! ### `setTokIdx` -/

@[simp] theorem State.setTokIdx_cfg (n : Nat) : (s.setTokIdx n).cfg = s.cfg := rfl
@[simp] theorem State.setTokIdx_mode (n : Nat) : (s.setTokIdx n).mode = s.mode := rfl
@[simp] theorem State.setTokIdx_gate (n : Nat) : (s.setTokIdx n).gate = s.gate := rfl
@[simp] theorem State.setTokIdx_tok (n : Nat) : (s.setTokIdx n).tok = s.tok := rfl
@[simp] theorem State.setTokIdx_tokIdx (n : Nat) : (s.setTokIdx n).tokIdx = n := rfl
@[simp] theorem State.setTokIdx_txCode (n : Nat) : (s.setTokIdx n).txCode = s.txCode := rfl
@[simp] theorem State.setTokIdx_txPar (n : Nat) : (s.setTokIdx n).txPar = s.txPar := rfl
@[simp] theorem State.setTokIdx_bus (n : Nat) : (s.setTokIdx n).bus = s.bus := rfl
@[simp] theorem State.setTokIdx_phase (n : Nat) : (s.setTokIdx n).phase = s.phase := rfl
@[simp] theorem State.setTokIdx_tmr (n : Nat) : (s.setTokIdx n).tmr = s.tmr := rfl
@[simp] theorem State.setTokIdx_input (n : Nat) : (s.setTokIdx n).input = s.input := rfl
@[simp] theorem State.setTokIdx_resetReq (n : Nat) : (s.setTokIdx n).resetReq = s.resetReq := rfl
@[simp] theorem State.setTokIdx_actions (n : Nat) : (s.setTokIdx n).actions = s.actions := rfl
@[simp] theorem State.setTokIdx_trace (n : Nat) : (s.setTokIdx n).trace = s.trace := rfl
@[simp] theorem State.setTokIdx_draws (n : Nat) : (s.setTokIdx n).draws = s.draws := rfl

/-! ### `setLatch` -/

@[simp] theorem State.setLatch_cfg (c : Byte) (p : Bool) : (s.setLatch c p).cfg = s.cfg := rfl
@[simp] theorem State.setLatch_mode (c : Byte) (p : Bool) : (s.setLatch c p).mode = s.mode := rfl
@[simp] theorem State.setLatch_gate (c : Byte) (p : Bool) : (s.setLatch c p).gate = s.gate := rfl
@[simp] theorem State.setLatch_tok (c : Byte) (p : Bool) : (s.setLatch c p).tok = s.tok := rfl
@[simp] theorem State.setLatch_tokIdx (c : Byte) (p : Bool) : (s.setLatch c p).tokIdx = s.tokIdx := rfl
@[simp] theorem State.setLatch_txCode (c : Byte) (p : Bool) : (s.setLatch c p).txCode = c := rfl
@[simp] theorem State.setLatch_txPar (c : Byte) (p : Bool) : (s.setLatch c p).txPar = p := rfl
@[simp] theorem State.setLatch_bus (c : Byte) (p : Bool) : (s.setLatch c p).bus = s.bus := rfl
@[simp] theorem State.setLatch_phase (c : Byte) (p : Bool) : (s.setLatch c p).phase = s.phase := rfl
@[simp] theorem State.setLatch_tmr (c : Byte) (p : Bool) : (s.setLatch c p).tmr = s.tmr := rfl
@[simp] theorem State.setLatch_input (c : Byte) (p : Bool) : (s.setLatch c p).input = s.input := rfl
@[simp] theorem State.setLatch_resetReq (c : Byte) (p : Bool) : (s.setLatch c p).resetReq = s.resetReq := rfl
@[simp] theorem State.setLatch_actions (c : Byte) (p : Bool) : (s.setLatch c p).actions = s.actions := rfl
@[simp] theorem State.setLatch_trace (c : Byte) (p : Bool) : (s.setLatch c p).trace = s.trace := rfl
@[simp] theorem State.setLatch_draws (c : Byte) (p : Bool) : (s.setLatch c p).draws = s.draws := rfl

/-! ### `setBus` -/

@[simp] theorem State.setBus_cfg (b : Bus) : (s.setBus b).cfg = s.cfg := rfl
@[simp] theorem State.setBus_mode (b : Bus) : (s.setBus b).mode = s.mode := rfl
@[simp] theorem State.setBus_gate (b : Bus) : (s.setBus b).gate = s.gate := rfl
@[simp] theorem State.setBus_tok (b : Bus) : (s.setBus b).tok = s.tok := rfl
@[simp] theorem State.setBus_tokIdx (b : Bus) : (s.setBus b).tokIdx = s.tokIdx := rfl
@[simp] theorem State.setBus_txCode (b : Bus) : (s.setBus b).txCode = s.txCode := rfl
@[simp] theorem State.setBus_txPar (b : Bus) : (s.setBus b).txPar = s.txPar := rfl
@[simp] theorem State.setBus_bus (b : Bus) : (s.setBus b).bus = b := rfl
@[simp] theorem State.setBus_phase (b : Bus) : (s.setBus b).phase = s.phase := rfl
@[simp] theorem State.setBus_tmr (b : Bus) : (s.setBus b).tmr = s.tmr := rfl
@[simp] theorem State.setBus_input (b : Bus) : (s.setBus b).input = s.input := rfl
@[simp] theorem State.setBus_resetReq (b : Bus) : (s.setBus b).resetReq = s.resetReq := rfl
@[simp] theorem State.setBus_actions (b : Bus) : (s.setBus b).actions = s.actions := rfl
@[simp] theorem State.setBus_trace (b : Bus) : (s.setBus b).trace = s.trace := rfl
@[simp] theorem State.setBus_draws (b : Bus) : (s.setBus b).draws = s.draws := rfl

/-! ### `setPhase` -/

@[simp] theorem State.setPhase_cfg (p : Phase) : (s.setPhase p).cfg = s.cfg := rfl
@[simp] theorem State.setPhase_mode (p : Phase) : (s.setPhase p).mode = s.mode := rfl
@[simp] theorem State.setPhase_gate (p : Phase) : (s.setPhase p).gate = s.gate := rfl
@[simp] theorem State.setPhase_tok (p : Phase) : (s.setPhase p).tok = s.tok := rfl
@[simp] theorem State.setPhase_tokIdx (p : Phase) : (s.setPhase p).tokIdx = s.tokIdx := rfl
@[simp] theorem State.setPhase_txCode (p : Phase) : (s.setPhase p).txCode = s.txCode := rfl
@[simp] theorem State.setPhase_txPar (p : Phase) : (s.setPhase p).txPar = s.txPar := rfl
@[simp] theorem State.setPhase_bus (p : Phase) : (s.setPhase p).bus = s.bus := rfl
@[simp] theorem State.setPhase_phase (p : Phase) : (s.setPhase p).phase = p := rfl
@[simp] theorem State.setPhase_tmr (p : Phase) : (s.setPhase p).tmr = s.tmr := rfl
@[simp] theorem State.setPhase_input (p : Phase) : (s.setPhase p).input = s.input := rfl
@[simp] theorem State.setPhase_resetReq (p : Phase) : (s.setPhase p).resetReq = s.resetReq := rfl
@[simp] theorem State.setPhase_actions (p : Phase) : (s.setPhase p).actions = s.actions := rfl
@[simp] theorem State.setPhase_trace (p : Phase) : (s.setPhase p).trace = s.trace := rfl
@[simp] theorem State.setPhase_draws (p : Phase) : (s.setPhase p).draws = s.draws := rfl

/-! ### `setTmr` -/

@[simp] theorem State.setTmr_cfg (n : Nat) : (s.setTmr n).cfg = s.cfg := rfl
@[simp] theorem State.setTmr_mode (n : Nat) : (s.setTmr n).mode = s.mode := rfl
@[simp] theorem State.setTmr_gate (n : Nat) : (s.setTmr n).gate = s.gate := rfl
@[simp] theorem State.setTmr_tok (n : Nat) : (s.setTmr n).tok = s.tok := rfl
@[simp] theorem State.setTmr_tokIdx (n : Nat) : (s.setTmr n).tokIdx = s.tokIdx := rfl
@[simp] theorem State.setTmr_txCode (n : Nat) : (s.setTmr n).txCode = s.txCode := rfl
@[simp] theorem State.setTmr_txPar (n : Nat) : (s.setTmr n).txPar = s.txPar := rfl
@[simp] theorem State.setTmr_bus (n : Nat) : (s.setTmr n).bus = s.bus := rfl
@[simp] theorem State.setTmr_phase (n : Nat) : (s.setTmr n).phase = s.phase := rfl
@[simp] theorem State.setTmr_tmr (n : Nat) : (s.setTmr n).tmr = n := rfl
@[simp] theorem State.setTmr_input (n : Nat) : (s.setTmr n).input = s.input := rfl
@[simp] theorem State.setTmr_resetReq (n : Nat) : (s.setTmr n).resetReq = s.resetReq := rfl
@[simp] theorem State.setTmr_actions (n : Nat) : (s.setTmr n).actions = s.actions := rfl
@[simp] theorem State.setTmr_trace (n : Nat) : (s.setTmr n).trace = s.trace := rfl
@[simp] theorem State.setTmr_draws (n : Nat) : (s.setTmr n).draws = s.draws := rfl

/-! ### `setInput` -/

@[simp] theorem State.setInput_cfg (l : List Byte) : (s.setInput l).cfg = s.cfg := rfl
@[simp] theorem State.setInput_mode (l : List Byte) : (s.setInput l).mode = s.mode := rfl
@[simp] theorem State.setInput_gate (l : List Byte) : (s.setInput l).gate = s.gate := rfl
@[simp] theorem State.setInput_tok (l : List Byte) : (s.setInput l).tok = s.tok := rfl
@[simp] theorem State.setInput_tokIdx (l : List Byte) : (s.setInput l).tokIdx = s.tokIdx := rfl
@[simp] theorem State.setInput_txCode (l : List Byte) : (s.setInput l).txCode = s.txCode := rfl
@[simp] theorem State.setInput_txPar (l : List Byte) : (s.setInput l).txPar = s.txPar := rfl
@[simp] theorem State.setInput_bus (l : List Byte) : (s.setInput l).bus = s.bus := rfl
@[simp] theorem State.setInput_phase (l : List Byte) : (s.setInput l).phase = s.phase := rfl
@[simp] theorem State.setInput_tmr (l : List Byte) : (s.setInput l).tmr = s.tmr := rfl
@[simp] theorem State.setInput_input (l : List Byte) : (s.setInput l).input = l := rfl
@[simp] theorem State.setInput_resetReq (l : List Byte) : (s.setInput l).resetReq = s.resetReq := rfl
@[simp] theorem State.setInput_actions (l : List Byte) : (s.setInput l).actions = s.actions := rfl
@[simp] theorem State.setInput_trace (l : List Byte) : (s.setInput l).trace = s.trace := rfl
@[simp] theorem State.setInput_draws (l : List Byte) : (s.setInput l).draws = s.draws := rfl

/-! ### `record` -/

@[simp] theorem State.record_cfg (a : Action) : (s.record a).cfg = s.cfg := rfl
@[simp] theorem State.record_mode (a : Action) : (s.record a).mode = s.mode := rfl
@[simp] theorem State.record_gate (a : Action) : (s.record a).gate = s.gate := rfl
@[simp] theorem State.record_tok (a : Action) : (s.record a).tok = s.tok := rfl
@[simp] theorem State.record_tokIdx (a : Action) : (s.record a).tokIdx = s.tokIdx := rfl
@[simp] theorem State.record_txCode (a : Action) : (s.record a).txCode = s.txCode := rfl
@[simp] theorem State.record_txPar (a : Action) : (s.record a).txPar = s.txPar := rfl
@[simp] theorem State.record_bus (a : Action) : (s.record a).bus = s.bus := rfl
@[simp] theorem State.record_phase (a : Action) : (s.record a).phase = s.phase := rfl
@[simp] theorem State.record_tmr (a : Action) : (s.record a).tmr = s.tmr := rfl
@[simp] theorem State.record_input (a : Action) : (s.record a).input = s.input := rfl
@[simp] theorem State.record_resetReq (a : Action) : (s.record a).resetReq = s.resetReq := rfl
@[simp] theorem State.record_actions (a : Action) : (s.record a).actions = s.actions ++ [a] := rfl
@[simp] theorem State.record_trace (a : Action) : (s.record a).trace = s.trace := rfl
@[simp] theorem State.record_draws (a : Action) : (s.record a).draws = s.draws := rfl

/-! ### `logImage` -/

@[simp] theorem State.logImage_cfg (h : Hold) : (s.logImage h).cfg = s.cfg := rfl
@[simp] theorem State.logImage_mode (h : Hold) : (s.logImage h).mode = s.mode := rfl
@[simp] theorem State.logImage_gate (h : Hold) : (s.logImage h).gate = s.gate := rfl
@[simp] theorem State.logImage_tok (h : Hold) : (s.logImage h).tok = s.tok := rfl
@[simp] theorem State.logImage_tokIdx (h : Hold) : (s.logImage h).tokIdx = s.tokIdx := rfl
@[simp] theorem State.logImage_txCode (h : Hold) : (s.logImage h).txCode = s.txCode := rfl
@[simp] theorem State.logImage_txPar (h : Hold) : (s.logImage h).txPar = s.txPar := rfl
@[simp] theorem State.logImage_bus (h : Hold) : (s.logImage h).bus = s.bus := rfl
@[simp] theorem State.logImage_phase (h : Hold) : (s.logImage h).phase = s.phase := rfl
@[simp] theorem State.logImage_tmr (h : Hold) : (s.logImage h).tmr = s.tmr := rfl
@[simp] theorem State.logImage_input (h : Hold) : (s.logImage h).input = s.input := rfl
@[simp] theorem State.logImage_resetReq (h : Hold) : (s.logImage h).resetReq = s.resetReq := rfl
@[simp] theorem State.logImage_actions (h : Hold) : (s.logImage h).actions = s.actions := rfl
@[simp] theorem State.logImage_trace (h : Hold) : (s.logImage h).trace = s.trace ++ [(s.bus, h)] := rfl
@[simp] theorem State.logImage_draws (h : Hold) : (s.logImage h).draws = s.draws := rfl

/-! ### `logImageForDraw` -/

@[simp] theorem State.logImageForDraw_cfg : s.logImageForDraw.cfg = s.cfg := rfl
@[simp] theorem State.logImageForDraw_mode : s.logImageForDraw.mode = s.mode := rfl
@[simp] theorem State.logImageForDraw_gate : s.logImageForDraw.gate = s.gate := rfl
@[simp] theorem State.logImageForDraw_tok : s.logImageForDraw.tok = s.tok := rfl
@[simp] theorem State.logImageForDraw_tokIdx : s.logImageForDraw.tokIdx = s.tokIdx := rfl
@[simp] theorem State.logImageForDraw_txCode : s.logImageForDraw.txCode = s.txCode := rfl
@[simp] theorem State.logImageForDraw_txPar : s.logImageForDraw.txPar = s.txPar := rfl
@[simp] theorem State.logImageForDraw_bus : s.logImageForDraw.bus = s.bus := rfl
@[simp] theorem State.logImageForDraw_phase : s.logImageForDraw.phase = s.phase := rfl
@[simp] theorem State.logImageForDraw_tmr : s.logImageForDraw.tmr = s.tmr := rfl
@[simp] theorem State.logImageForDraw_input : s.logImageForDraw.input = s.input := rfl
@[simp] theorem State.logImageForDraw_resetReq : s.logImageForDraw.resetReq = s.resetReq := rfl
@[simp] theorem State.logImageForDraw_actions : s.logImageForDraw.actions = s.actions := rfl
@[simp] theorem State.logImageForDraw_trace : s.logImageForDraw.trace = s.trace ++ [(s.bus, .draw (Config.freeGap s.draws))] := rfl
@[simp] theorem State.logImageForDraw_draws : s.logImageForDraw.draws = s.draws + 1 := rfl

/-! ### `standForDraw` -/

@[simp] theorem State.standForDraw_cfg : s.standForDraw.cfg = s.cfg := rfl
@[simp] theorem State.standForDraw_mode : s.standForDraw.mode = s.mode := rfl
@[simp] theorem State.standForDraw_gate : s.standForDraw.gate = s.gate := rfl
@[simp] theorem State.standForDraw_tok : s.standForDraw.tok = s.tok := rfl
@[simp] theorem State.standForDraw_tokIdx : s.standForDraw.tokIdx = s.tokIdx := rfl
@[simp] theorem State.standForDraw_txCode : s.standForDraw.txCode = s.txCode := rfl
@[simp] theorem State.standForDraw_txPar : s.standForDraw.txPar = s.txPar := rfl
@[simp] theorem State.standForDraw_bus : s.standForDraw.bus = s.bus := rfl
@[simp] theorem State.standForDraw_phase : s.standForDraw.phase = s.phase := rfl
@[simp] theorem State.standForDraw_tmr : s.standForDraw.tmr = s.tmr := rfl
@[simp] theorem State.standForDraw_input : s.standForDraw.input = s.input := rfl
@[simp] theorem State.standForDraw_resetReq : s.standForDraw.resetReq = s.resetReq := rfl
@[simp] theorem State.standForDraw_actions : s.standForDraw.actions = s.actions := rfl
@[simp] theorem State.standForDraw_trace : s.standForDraw.trace = lengthen s.trace s.bus (Config.freeGap s.draws) := rfl
@[simp] theorem State.standForDraw_draws : s.standForDraw.draws = s.draws + 1 := rfl

/-! ### `clearBuffer` -/

@[simp] theorem State.clearBuffer_cfg : s.clearBuffer.cfg = s.cfg := rfl
@[simp] theorem State.clearBuffer_mode : s.clearBuffer.mode = s.mode := rfl
@[simp] theorem State.clearBuffer_gate : s.clearBuffer.gate = s.gate := rfl
@[simp] theorem State.clearBuffer_tok : s.clearBuffer.tok = [] := rfl
@[simp] theorem State.clearBuffer_tokIdx : s.clearBuffer.tokIdx = 0 := rfl
@[simp] theorem State.clearBuffer_txCode : s.clearBuffer.txCode = s.txCode := rfl
@[simp] theorem State.clearBuffer_txPar : s.clearBuffer.txPar = s.txPar := rfl
@[simp] theorem State.clearBuffer_bus : s.clearBuffer.bus = s.bus := rfl
@[simp] theorem State.clearBuffer_phase : s.clearBuffer.phase = s.phase := rfl
@[simp] theorem State.clearBuffer_tmr : s.clearBuffer.tmr = s.tmr := rfl
@[simp] theorem State.clearBuffer_input : s.clearBuffer.input = s.input := rfl
@[simp] theorem State.clearBuffer_resetReq : s.clearBuffer.resetReq = s.resetReq := rfl
@[simp] theorem State.clearBuffer_actions : s.clearBuffer.actions = s.actions := rfl
@[simp] theorem State.clearBuffer_trace : s.clearBuffer.trace = s.trace := rfl
@[simp] theorem State.clearBuffer_draws : s.clearBuffer.draws = s.draws := rfl

/-! ### `append` -/

@[simp] theorem State.append_cfg (b : Byte) : (s.append b).cfg = s.cfg := rfl
@[simp] theorem State.append_mode (b : Byte) : (s.append b).mode = s.mode := rfl
@[simp] theorem State.append_gate (b : Byte) : (s.append b).gate = s.gate := rfl
@[simp] theorem State.append_tok (b : Byte) : (s.append b).tok = s.tok.write s.appendSlot b := rfl
@[simp] theorem State.append_tokIdx (b : Byte) : (s.append b).tokIdx = s.appendIdx := rfl
@[simp] theorem State.append_txCode (b : Byte) : (s.append b).txCode = s.txCode := rfl
@[simp] theorem State.append_txPar (b : Byte) : (s.append b).txPar = s.txPar := rfl
@[simp] theorem State.append_bus (b : Byte) : (s.append b).bus = s.bus := rfl
@[simp] theorem State.append_phase (b : Byte) : (s.append b).phase = s.phase := rfl
@[simp] theorem State.append_tmr (b : Byte) : (s.append b).tmr = s.tmr := rfl
@[simp] theorem State.append_input (b : Byte) : (s.append b).input = s.input := rfl
@[simp] theorem State.append_resetReq (b : Byte) : (s.append b).resetReq = s.resetReq := rfl
@[simp] theorem State.append_actions (b : Byte) : (s.append b).actions = s.actions := rfl
@[simp] theorem State.append_trace (b : Byte) : (s.append b).trace = s.trace := rfl
@[simp] theorem State.append_draws (b : Byte) : (s.append b).draws = s.draws := rfl

/-! ### `afterGap` -/

@[simp] theorem State.afterGap_cfg : s.afterGap.cfg = s.cfg := by unfold State.afterGap; split <;> rfl
@[simp] theorem State.afterGap_mode : s.afterGap.mode = s.mode := by unfold State.afterGap; split <;> rfl
@[simp] theorem State.afterGap_gate : s.afterGap.gate = s.gate := by unfold State.afterGap; split <;> rfl
@[simp] theorem State.afterGap_tok : s.afterGap.tok = s.tok := by unfold State.afterGap; split <;> rfl
@[simp] theorem State.afterGap_tokIdx : s.afterGap.tokIdx = s.tokIdx := by unfold State.afterGap; split <;> rfl
@[simp] theorem State.afterGap_txCode : s.afterGap.txCode = s.txCode := by unfold State.afterGap; split <;> rfl
@[simp] theorem State.afterGap_txPar : s.afterGap.txPar = s.txPar := by unfold State.afterGap; split <;> rfl
@[simp] theorem State.afterGap_bus : s.afterGap.bus = s.bus := by unfold State.afterGap; split <;> rfl
@[simp] theorem State.afterGap_phase : s.afterGap.phase = s.phase := by unfold State.afterGap; split <;> rfl
@[simp] theorem State.afterGap_tmr : s.afterGap.tmr = s.tmr := by unfold State.afterGap; split <;> rfl
@[simp] theorem State.afterGap_input : s.afterGap.input = s.input := by unfold State.afterGap; split <;> rfl
@[simp] theorem State.afterGap_resetReq : s.afterGap.resetReq = s.resetReq := by unfold State.afterGap; split <;> rfl
@[simp] theorem State.afterGap_actions : s.afterGap.actions = s.actions := by unfold State.afterGap; split <;> rfl

end Sys2Proof.Machine
end

