-- ==== Sys2Proof/Laws/Ops.lean ====
section
/-! SUPPORT. What each shared operation does, said once: the meanings all end in `carryOut`, and a step is one of nine
cases. -/

namespace Sys2Proof.Machine

/-! ## Carrying out an action -/

theorem carryOut_none (s : State) :
    carryOut s .none = .next { s with actions := s.actions ++ [.none], phase := .idle } := rfl

theorem carryOut_pause (s : State) (ms : Nat) :
    carryOut s (.pause ms) =
      .next { s with actions := s.actions ++ [.pause ms], tmr := ms * s.cfg.ticksPerMs, phase := .pause,
                     trace := s.trace ++ [(s.bus, .pause ms)] } := rfl

theorem carryOut_emit (s : State) (c : Byte) :
    carryOut s (.emit c (parity c)) =
      .next { s with actions := s.actions ++ [.emit c (parity c)], txCode := c, txPar := parity c,
                     phase := .txData } := by
  simp [carryOut, startTransmit, State.record, State.setLatch, State.setPhase]

/-- The gate decides between nothing and the code with its own parity; nothing else can come out. -/
theorem gatedEmit_cases (s : State) (c : Byte) :
    (gatedEmit s c = .none ∧ c = s.cfg.scExecute ∧ s.gate = .disabled) ∨
      (gatedEmit s c = .emit c (parity c) ∧ ¬(c = s.cfg.scExecute ∧ s.gate = .disabled)) := by
  unfold gatedEmit
  split <;> simp_all

theorem carryOut_gatedEmit (s : State) (c : Byte) :
    carryOut s (gatedEmit s c) =
      .next (if c = s.cfg.scExecute ∧ s.gate = .disabled
        then { s with actions := s.actions ++ [.none], phase := .idle }
        else { s with actions := s.actions ++ [.emit c (parity c)], txCode := c, txPar := parity c,
                      phase := .txData }) := by
  rcases gatedEmit_cases s c with ⟨h, hg⟩ | ⟨h, hg⟩
  · rw [h, carryOut_none, if_pos hg]
  · rw [h, carryOut_emit, if_neg hg]

/-! ## The gap between two actions -/

/-- Nothing, or one draw more for the standing image: no other field changes. -/
theorem afterGap_cases (s : State) :
    s.afterGap = s ∨
      s.afterGap = { s with trace := lengthen s.trace s.bus (Config.freeGap s.draws), draws := s.draws + 1 } := by
  unfold State.afterGap
  split
  · exact .inl rfl
  · exact .inl rfl
  · exact .inr rfl
  · exact .inr rfl

/-- Lengthening changes no image of the trace and adds at most one, the standing image. -/
theorem lengthen_images (tr : List (Bus × Hold)) (b : Bus) (g : Nat) :
    (lengthen tr b g).map Prod.fst = tr.map Prod.fst ∨ (lengthen tr b g).map Prod.fst = tr.map Prod.fst ++ [b] := by
  unfold lengthen
  split
  · rename_i b' h hl
    obtain ⟨l, rfl⟩ := List.getLast?_eq_some_iff.mp hl
    split
    · rename_i hb; subst hb; exact .inl (by simp)
    · exact .inr (by simp)
  all_goals exact .inr (by simp)

/-! ## Tokens -/

/-- A token operation's meaning is its arm of `exec`. -/
theorem runToken_eq_exec {i : Instr} (h : i.isByteOp = false) (s : State) : runToken i s = exec i s := by
  cases i <;> first | rfl | (simp [Instr.isByteOp] at h)

/-! ## Reset -/

theorem restart_eq (s : State) :
    restart s = { State.resetWith s.cfg with input := s.input, draws := s.draws } := rfl

@[simp] theorem restart_cfg (s : State) : (restart s).cfg = s.cfg := rfl
@[simp] theorem restart_input (s : State) : (restart s).input = s.input := rfl
@[simp] theorem restart_resetReq (s : State) : (restart s).resetReq = false := rfl

/-! ## The step -/

/-- What a step does in a phase other than `IDLE`. -/
def busyStep (s : State) : State :=
  match s.phase with
  | .idle => s
  | .txData => stepTxData s
  | .txPar => stepTxPar s
  | .txStrobeOn => stepTxStrobeOn s
  | .txHold => stepTxHold s
  | .txStrobeOff => stepTxStrobeOff s
  | .txRelease => stepTxRelease s
  | .pause => stepPause s

/-- Everything a step can be. -/
theorem step_eq (s : State) :
    step s =
      if legal s.cfg = false then .refused .illegalConfig
      else if s.resetReq = true then .next (restart s)
      else if s.phase = .idle then
        (match s.input with
        | [] => .next s
        | b :: rest => exec (decodeByte s.cfg (byteWord s.mode.bit b)) (s.afterGap.setInput rest))
      else .next (busyStep s) := by
  unfold step busyStep fetch
  split
  · rfl
  · split
    · rfl
    · cases h : s.phase <;> simp
      cases s.input <;> rfl

/-- One inversion for the step: if it answers `t`, one of these four cases holds. -/
theorem step_cases {s t : State} (h : step s = .next t) :
    legal s.cfg = true ∧
      ((s.resetReq = true ∧ t = restart s) ∨
        (s.resetReq = false ∧ s.phase = .idle ∧ s.input = [] ∧ t = s) ∨
        (s.resetReq = false ∧ s.phase = .idle ∧
          ∃ b rest, s.input = b :: rest ∧ exec (decodeByte s.cfg (byteWord s.mode.bit b)) (s.afterGap.setInput rest) =
            .next t) ∨
        (s.resetReq = false ∧ s.phase ≠ .idle ∧ t = busyStep s)) := by
  rw [step_eq] at h
  split at h
  · cases h
  · rename_i hl
    refine ⟨by simpa using hl, ?_⟩
    split at h
    · rename_i hr; cases h; exact .inl ⟨hr, rfl⟩
    · rename_i hr
      have hr : s.resetReq = false := by simpa using hr
      split at h
      · rename_i hp
        cases hi : s.input with
        | nil => simp only [hi] at h; cases h; exact .inr (.inl ⟨hr, hp, rfl, rfl⟩)
        | cons b rest => simp only [hi] at h; exact .inr (.inr (.inl ⟨hr, hp, b, rest, rfl, h⟩))
      · rename_i hp; cases h; exact .inr (.inr (.inr ⟨hr, hp, rfl⟩))

end Sys2Proof.Machine
end

