-- ==== Sys2Proof/Laws/PerInstr.lean ====
section
/-! SUPPORT. Statements made for every instruction, one lemma per constructor. -/

namespace Sys2Proof.Laws.Format

/-- The encoder gives a word of format BYTE exactly to the byte operations (spec/30_encoding.md R47, R49, R51). -/
def Statement (i : Instr) : Prop := (encode i).isByte = i.isByteOp

theorem nOpen : Statement .nOpen := rfl
theorem nKey (b : Byte) : Statement (.nKey b) := rfl
theorem nDrop (b : Byte) : Statement (.nDrop b) := rfl
theorem eClose : Statement .eClose := rfl
theorem eAppend (b : Byte) : Statement (.eAppend b) := rfl
theorem tLE : Statement .tLE := rfl
theorem tRI : Statement .tRI := rfl
theorem tUP : Statement .tUP := rfl
theorem tDO : Statement .tDO := rfl
theorem tSU : Statement .tSU := rfl
theorem tSD : Statement .tSD := rfl
theorem tHO : Statement .tHO := rfl
theorem tEX : Statement .tEX := rfl
theorem tAT : Statement .tAT := rfl
theorem tCA : Statement .tCA := rfl
theorem tCP : Statement .tCP := rfl
theorem tCM : Statement .tCM := rfl
theorem tCS : Statement .tCS := rfl
theorem tD1 : Statement .tD1 := rfl
theorem tD2 : Statement .tD2 := rfl
theorem tD3 : Statement .tD3 := rfl
theorem tD4 : Statement .tD4 := rfl
theorem tD5 : Statement .tD5 := rfl
theorem tD6 : Statement .tD6 := rfl
theorem tD7 : Statement .tD7 := rfl
theorem tD8 : Statement .tD8 := rfl
theorem tD9 : Statement .tD9 := rfl
theorem tE0 : Statement .tE0 := rfl
theorem tE1 : Statement .tE1 := rfl
theorem tInert : Statement .tInert := rfl

end Sys2Proof.Laws.Format
end

