-- ==== Sys2Proof/Laws/Transmitter.lean ====
section
/-! SUPPORT. What the bus steps and the waits do to each field, and that a step in a busy phase is that phase's bus step. -/

namespace Sys2Proof.Machine

variable (s : State)

/-! ### `stepTxData` -/

@[simp] theorem stepTxData_cfg : (stepTxData s).cfg = s.cfg := rfl
@[simp] theorem stepTxData_mode : (stepTxData s).mode = s.mode := rfl
@[simp] theorem stepTxData_gate : (stepTxData s).gate = s.gate := rfl
@[simp] theorem stepTxData_tok : (stepTxData s).tok = s.tok := rfl
@[simp] theorem stepTxData_tokIdx : (stepTxData s).tokIdx = s.tokIdx := rfl
@[simp] theorem stepTxData_txCode : (stepTxData s).txCode = s.txCode := rfl
@[simp] theorem stepTxData_txPar : (stepTxData s).txPar = s.txPar := rfl
@[simp] theorem stepTxData_input : (stepTxData s).input = s.input := rfl
@[simp] theorem stepTxData_resetReq : (stepTxData s).resetReq = s.resetReq := rfl
@[simp] theorem stepTxData_actions : (stepTxData s).actions = s.actions := rfl
@[simp] theorem stepTxData_phase : (stepTxData s).phase = .txPar := rfl
@[simp] theorem stepTxData_tmr : (stepTxData s).tmr = s.tmr := rfl

/-! ### `stepTxPar` -/

@[simp] theorem stepTxPar_cfg : (stepTxPar s).cfg = s.cfg := rfl
@[simp] theorem stepTxPar_mode : (stepTxPar s).mode = s.mode := rfl
@[simp] theorem stepTxPar_gate : (stepTxPar s).gate = s.gate := rfl
@[simp] theorem stepTxPar_tok : (stepTxPar s).tok = s.tok := rfl
@[simp] theorem stepTxPar_tokIdx : (stepTxPar s).tokIdx = s.tokIdx := rfl
@[simp] theorem stepTxPar_txCode : (stepTxPar s).txCode = s.txCode := rfl
@[simp] theorem stepTxPar_txPar : (stepTxPar s).txPar = s.txPar := rfl
@[simp] theorem stepTxPar_input : (stepTxPar s).input = s.input := rfl
@[simp] theorem stepTxPar_resetReq : (stepTxPar s).resetReq = s.resetReq := rfl
@[simp] theorem stepTxPar_actions : (stepTxPar s).actions = s.actions := rfl
@[simp] theorem stepTxPar_phase : (stepTxPar s).phase = .txStrobeOn := rfl
@[simp] theorem stepTxPar_tmr : (stepTxPar s).tmr = s.tmr := rfl

/-! ### `stepTxStrobeOn` -/

@[simp] theorem stepTxStrobeOn_cfg : (stepTxStrobeOn s).cfg = s.cfg := rfl
@[simp] theorem stepTxStrobeOn_mode : (stepTxStrobeOn s).mode = s.mode := rfl
@[simp] theorem stepTxStrobeOn_gate : (stepTxStrobeOn s).gate = s.gate := rfl
@[simp] theorem stepTxStrobeOn_tok : (stepTxStrobeOn s).tok = s.tok := rfl
@[simp] theorem stepTxStrobeOn_tokIdx : (stepTxStrobeOn s).tokIdx = s.tokIdx := rfl
@[simp] theorem stepTxStrobeOn_txCode : (stepTxStrobeOn s).txCode = s.txCode := rfl
@[simp] theorem stepTxStrobeOn_txPar : (stepTxStrobeOn s).txPar = s.txPar := rfl
@[simp] theorem stepTxStrobeOn_input : (stepTxStrobeOn s).input = s.input := rfl
@[simp] theorem stepTxStrobeOn_resetReq : (stepTxStrobeOn s).resetReq = s.resetReq := rfl
@[simp] theorem stepTxStrobeOn_actions : (stepTxStrobeOn s).actions = s.actions := rfl
@[simp] theorem stepTxStrobeOn_phase : (stepTxStrobeOn s).phase = .txHold := rfl
@[simp] theorem stepTxStrobeOn_tmr : (stepTxStrobeOn s).tmr = s.cfg.strobeHold := rfl

/-! ### `stepTxStrobeOff` -/

@[simp] theorem stepTxStrobeOff_cfg : (stepTxStrobeOff s).cfg = s.cfg := rfl
@[simp] theorem stepTxStrobeOff_mode : (stepTxStrobeOff s).mode = s.mode := rfl
@[simp] theorem stepTxStrobeOff_gate : (stepTxStrobeOff s).gate = s.gate := rfl
@[simp] theorem stepTxStrobeOff_tok : (stepTxStrobeOff s).tok = s.tok := rfl
@[simp] theorem stepTxStrobeOff_tokIdx : (stepTxStrobeOff s).tokIdx = s.tokIdx := rfl
@[simp] theorem stepTxStrobeOff_txCode : (stepTxStrobeOff s).txCode = s.txCode := rfl
@[simp] theorem stepTxStrobeOff_txPar : (stepTxStrobeOff s).txPar = s.txPar := rfl
@[simp] theorem stepTxStrobeOff_input : (stepTxStrobeOff s).input = s.input := rfl
@[simp] theorem stepTxStrobeOff_resetReq : (stepTxStrobeOff s).resetReq = s.resetReq := rfl
@[simp] theorem stepTxStrobeOff_actions : (stepTxStrobeOff s).actions = s.actions := rfl
@[simp] theorem stepTxStrobeOff_phase : (stepTxStrobeOff s).phase = .txRelease := rfl
@[simp] theorem stepTxStrobeOff_tmr : (stepTxStrobeOff s).tmr = s.tmr := rfl

/-! ### `stepTxRelease` -/

@[simp] theorem stepTxRelease_cfg : (stepTxRelease s).cfg = s.cfg := rfl
@[simp] theorem stepTxRelease_mode : (stepTxRelease s).mode = s.mode := rfl
@[simp] theorem stepTxRelease_gate : (stepTxRelease s).gate = s.gate := rfl
@[simp] theorem stepTxRelease_tok : (stepTxRelease s).tok = s.tok := rfl
@[simp] theorem stepTxRelease_tokIdx : (stepTxRelease s).tokIdx = s.tokIdx := rfl
@[simp] theorem stepTxRelease_txCode : (stepTxRelease s).txCode = s.txCode := rfl
@[simp] theorem stepTxRelease_txPar : (stepTxRelease s).txPar = s.txPar := rfl
@[simp] theorem stepTxRelease_input : (stepTxRelease s).input = s.input := rfl
@[simp] theorem stepTxRelease_resetReq : (stepTxRelease s).resetReq = s.resetReq := rfl
@[simp] theorem stepTxRelease_actions : (stepTxRelease s).actions = s.actions := rfl
@[simp] theorem stepTxRelease_phase : (stepTxRelease s).phase = .idle := rfl
@[simp] theorem stepTxRelease_tmr : (stepTxRelease s).tmr = s.tmr := rfl

/-! ### `waitFor` -/

@[simp] theorem waitFor_cfg (p : Phase) : (waitFor s p).cfg = s.cfg := by unfold waitFor; split <;> rfl
@[simp] theorem waitFor_mode (p : Phase) : (waitFor s p).mode = s.mode := by unfold waitFor; split <;> rfl
@[simp] theorem waitFor_gate (p : Phase) : (waitFor s p).gate = s.gate := by unfold waitFor; split <;> rfl
@[simp] theorem waitFor_tok (p : Phase) : (waitFor s p).tok = s.tok := by unfold waitFor; split <;> rfl
@[simp] theorem waitFor_tokIdx (p : Phase) : (waitFor s p).tokIdx = s.tokIdx := by unfold waitFor; split <;> rfl
@[simp] theorem waitFor_txCode (p : Phase) : (waitFor s p).txCode = s.txCode := by unfold waitFor; split <;> rfl
@[simp] theorem waitFor_txPar (p : Phase) : (waitFor s p).txPar = s.txPar := by unfold waitFor; split <;> rfl
@[simp] theorem waitFor_input (p : Phase) : (waitFor s p).input = s.input := by unfold waitFor; split <;> rfl
@[simp] theorem waitFor_resetReq (p : Phase) : (waitFor s p).resetReq = s.resetReq := by unfold waitFor; split <;> rfl
@[simp] theorem waitFor_actions (p : Phase) : (waitFor s p).actions = s.actions := by unfold waitFor; split <;> rfl
@[simp] theorem waitFor_bus (p : Phase) : (waitFor s p).bus = s.bus := by unfold waitFor; split <;> rfl
@[simp] theorem waitFor_trace (p : Phase) : (waitFor s p).trace = s.trace := by unfold waitFor; split <;> rfl
@[simp] theorem waitFor_draws (p : Phase) : (waitFor s p).draws = s.draws := by unfold waitFor; split <;> rfl

theorem waitFor_zero {s : State} (p : Phase) (h : s.tmr = 0) : waitFor s p = { s with phase := p } := by
  unfold waitFor; rw [if_pos h]; rfl

theorem waitFor_pos {s : State} (p : Phase) (h : s.tmr ≠ 0) : waitFor s p = { s with tmr := s.tmr - 1 } := by
  unfold waitFor; rw [if_neg h]; rfl

/-! ### The busy step -/

/-- Under a legal configuration, with no restart requested, a step outside `IDLE` is the phase's own. -/
theorem step_busy {p : Phase} (hl : legal s.cfg = true) (hr : s.resetReq = false) (hp : s.phase = p) (hne : p ≠ .idle) :
    step s = .next (busyStep s) := by
  rw [step_eq, if_neg (by simp [hl]), if_neg (by simp [hr]), if_neg (by rw [hp]; exact hne)]

/-- In `IDLE` with a byte available, a step takes it and is `exec` of the operation it selects. -/
theorem step_take {b : Byte} {rest : List Byte} (hl : legal s.cfg = true) (hr : s.resetReq = false)
    (hp : s.phase = .idle) (hi : s.input = b :: rest) :
    step s = exec (decodeByte s.cfg (byteWord s.mode.bit b)) (s.afterGap.setInput rest) := by
  rw [step_eq, if_neg (by simp [hl]), if_neg (by simp [hr]), if_pos hp]
  simp only [hi]

end Sys2Proof.Machine
end

