-- ==== Sys2Proof/Tests/Slice0.lean ====
section
/-! SUPPORT. The model's own tests. Expected values are those of spec/95_test_vectors.md (the section is named), under its
test configuration TC; decode tests write the words out from spec/30_encoding.md. The last part shows, for each statement
of Certificates/Slice0/Obligations.lean with hypotheses, a state and operands that meet them. -/

namespace Sys2Proof.Tests

open Sys2Proof Sys2Proof.Machine

/-! ## Small states -/

/-- A reset machine in `Normal` with the gate `g`, about to take `l`. -/
def inNormal (g : Gate) (l : List Byte) : State := { State.reset with gate := g, input := l }

/-- A reset machine in an open sequence that holds the bytes `m`, `n` of them counted, about to take `l`. -/
def inEscape (m : Memory) (n : Nat) (l : List Byte) : State :=
  { State.reset with mode := .escape, tok := m, tokIdx := n, input := l }

/-- An open sequence that holds the two bytes `a`, `b` and is about to close, with the gate `g`. -/
def closing (g : Gate) (a b : Byte) : State := { inEscape [(0, a), (1, b)] 2 [0x5E#8] with gate := g }

/-- The configuration TC without `HAS_SHIFT_ARROWS`. -/
def narrow : Config := { Config.tc with hasShiftArrows := false }

/-- The bus image whose asserted lines are those listed. -/
def image (l : List Nat) (p s : Line) : Bus :=
  { d := Vector.ofFn fun i => if l.contains i.val then .asserted else .idle, p := p, s := s }

/-- `(c, p)` in the latch, the phase `ph` due over the bus image `b`. -/
def sending (c : Byte) (p : Bool) (ph : Phase) (b : Bus) : State :=
  { State.reset with txCode := c, txPar := p, phase := ph, bus := b }

/-- What `f` reads of the next state, none where there is no next state. -/
def get {α : Type} (f : State → α) : Result → Option α
  | .next t => some (f t)
  | .fault _ => none
  | .refused _ => none

theorem next_of_get {α : Type} {f : State → α} {r : Result} {x : α} (h : get f r = some x) :
    ∃ t : State, r = .next t ∧ f t = x := by
  cases r with
  | next t => exact ⟨t, rfl, by simpa [get] using h⟩
  | fault _ => simp [get] at h
  | refused _ => simp [get] at h

/-- The last action of the next state. -/
def lastAction (r : Result) : Option (Option Action) := get (fun t => t.actions.getLast?) r

/-! ## Well-formed instructions: an ill-formed term for each check of spec/30_encoding.md R49 and R51 -/

theorem test_key_caret_ill_formed : (Instr.nKey 0x5E#8).wellFormed Config.tc = false := by decide
theorem test_key_unmapped_ill_formed : (Instr.nKey 0x44#8).wellFormed Config.tc = false := by decide
theorem test_drop_caret_ill_formed : (Instr.nDrop 0x5E#8).wellFormed Config.tc = false := by decide
theorem test_drop_mapped_ill_formed : (Instr.nDrop 0x41#8).wellFormed Config.tc = false := by decide
theorem test_append_caret_ill_formed : (Instr.eAppend 0x5E#8).wellFormed Config.tc = false := by decide
theorem test_shift_arrows_ill_formed :
    Instr.tSU.wellFormed narrow = false ∧ Instr.tSD.wellFormed narrow = false := by decide
theorem test_well_formed :
    (Instr.nKey 0x41#8).wellFormed Config.tc = true ∧ (Instr.nDrop 0x44#8).wellFormed Config.tc = true ∧
    (Instr.eAppend 0x0D#8).wellFormed Config.tc = true ∧ Instr.tSU.wellFormed Config.tc = true := by decide

/-! ## Decoding: one word for every row, its bits written out from spec/30_encoding.md R49 and R51 -/

theorem test_decode_byte_operations :
    decodeByte Config.tc 0b0_01011110#9 = .nOpen ∧ decodeByte Config.tc 0b0_01000001#9 = .nKey 0x41#8 ∧
    decodeByte Config.tc 0b0_01000100#9 = .nDrop 0x44#8 ∧ decodeByte Config.tc 0b1_01011110#9 = .eClose ∧
    decodeByte Config.tc 0b1_00001101#9 = .eAppend 0x0D#8 := by decide

theorem test_decode_arrows :
    decodeToken Config.tc true 0b01001100_01000101#16 = .tLE ∧ decodeToken Config.tc true 0b01010010_01001001#16 = .tRI ∧
    decodeToken Config.tc true 0b01010101_01010000#16 = .tUP ∧ decodeToken Config.tc true 0b01000100_01001111#16 = .tDO ∧
    decodeToken Config.tc true 0b01010011_01010101#16 = .tSU ∧ decodeToken Config.tc true 0b01010011_01000100#16 = .tSD := by
  decide

theorem test_decode_keys :
    decodeToken Config.tc true 0b01001000_01001111#16 = .tHO ∧ decodeToken Config.tc true 0b01000101_01011000#16 = .tEX ∧
    decodeToken Config.tc true 0b01000001_01010100#16 = .tAT ∧ decodeToken Config.tc true 0b01000011_01000001#16 = .tCA ∧
    decodeToken Config.tc true 0b01000011_01010000#16 = .tCP ∧ decodeToken Config.tc true 0b01000011_01001101#16 = .tCM ∧
    decodeToken Config.tc true 0b01000011_01010011#16 = .tCS := by decide

theorem test_decode_pauses :
    decodeToken Config.tc true 0b01000100_00110001#16 = .tD1 ∧ decodeToken Config.tc true 0b01000100_00110010#16 = .tD2 ∧
    decodeToken Config.tc true 0b01000100_00110011#16 = .tD3 ∧ decodeToken Config.tc true 0b01000100_00110100#16 = .tD4 ∧
    decodeToken Config.tc true 0b01000100_00110101#16 = .tD5 ∧ decodeToken Config.tc true 0b01000100_00110110#16 = .tD6 ∧
    decodeToken Config.tc true 0b01000100_00110111#16 = .tD7 ∧ decodeToken Config.tc true 0b01000100_00111000#16 = .tD8 ∧
    decodeToken Config.tc true 0b01000100_00111001#16 = .tD9 := by decide

theorem test_decode_gates :
    decodeToken Config.tc true 0b01000101_00110000#16 = .tE0 ∧ decodeToken Config.tc true 0b01000101_00110001#16 = .tE1 := by
  decide

/-- Section 2.5, corner cases: `^up^`, `^D0^`, `^EO^`, `^ZZ^`, an empty token, and `^SU^` where it is not recognized. -/
theorem test_decode_inert :
    decodeToken Config.tc true 0x7570#16 = .tInert ∧ decodeToken Config.tc true 0x4430#16 = .tInert ∧
    decodeToken Config.tc true 0x454F#16 = .tInert ∧ decodeToken Config.tc true 0x5A5A#16 = .tInert ∧
    decodeToken Config.tc false 0x5550#16 = .tInert ∧ decodeToken narrow true 0x5355#16 = .tInert := by decide

/-- The words of the opcode table, numbered as it numbers them. -/
theorem test_decode_table_words :
    decodeTableWord 16 0x05E = some .nOpen ∧ decodeTableWord 16 0x15E = some .eClose ∧
    decodeTableWord 16 0x100 = some (.eAppend 0x00#8) ∧ decodeTableWord 16 0x5550 = some .tUP ∧
    decodeTableWord 16 0x4439 = some .tD9 ∧ decodeTableWord 0 0 = some .tInert := by decide

/-! ## Lookup, parity and the gate (sections 2.1 to 2.3) -/

theorem test_parity :
    parity 0x00#8 = false ∧ parity 0x01#8 = true ∧ parity 0x07#8 = true ∧ parity 0x3B#8 = true ∧ parity 0x5A#8 = false ∧
    parity 0x7F#8 = true ∧ parity 0x80#8 = true ∧ parity 0xA5#8 = false ∧ parity 0xFF#8 = false := by decide

theorem test_lookup :
    lookup Config.tc 0x41#8 = some 0x5A#8 ∧ lookup Config.tc 0x61#8 = some 0x5A#8 ∧ lookup Config.tc 0x20#8 = some 0x7F#8 ∧
    lookup Config.tc 0x0A#8 = some 0x0E#8 ∧ lookup Config.tc 0x5E#8 = none ∧ lookup Config.tc 0xFF#8 = none := by decide

theorem test_gated_emit :
    gatedEmit (inNormal .enabled []) 0x0E#8 = .emit 0x0E#8 true ∧ gatedEmit (inNormal .disabled []) 0x0E#8 = .none ∧
    gatedEmit (inNormal .disabled []) 0x5A#8 = .emit 0x5A#8 false := by decide

theorem test_configuration_legal : legal Config.tc = true := by decide

/-- R59(a): `^` may not be mapped. -/
theorem test_configuration_illegal :
    legal { Config.tc with codeTable := Memory.write Config.tc.codeTable 0x5E 0x22#8 } = false := by decide

/-- R8, R9, R59(e), R138: one configuration that breaks each. -/
theorem test_constraints_refused :
    legal { Config.tc with scLeft := 0x00#8 } = false ∧ legal { Config.tc with tokenCap := 2 } = false ∧
    legal { Config.tc with codeTable := Memory.write Config.tc.codeTable 0x0A 0x11#8 } = false ∧
    legal { Config.tc with tMinPulse := 2 } = false ∧ legal { Config.tc with tKeyRepeat := 2 } = false := by decide

/-! ## Byte operations (section 2.4) -/

/-- B1, over a buffer that is not clear. -/
theorem test_open :
    get (fun t => (t.mode, t.tokIdx, t.tok)) (step { inNormal .enabled [0x5E#8] with tok := [(1, 0x33#8)], tokIdx := 2 }) =
      some (.escape, 0, []) := by decide

/-- B2. -/
theorem test_key : lastAction (step (inNormal .enabled [0x41#8])) = some (some (.emit 0x5A#8 false)) := by decide

/-- B3. -/
theorem test_key_gated :
    get (fun t => (t.actions, t.gate, t.phase)) (step (inNormal .disabled [0x0D#8])) = some ([.none], .disabled, .idle) := by
  decide

/-- B6. -/
theorem test_drop :
    get (fun t => (t.actions, t.mode, t.input)) (step (inNormal .enabled [0x00#8, 0x41#8])) =
      some ([.none], .normal, [0x41#8]) := by decide

/-- B8: CR sends nothing in `Escape`. -/
theorem test_append :
    get (fun t => (t.actions, t.tokIdx, t.tok)) (step (inEscape [(0, 0x55#8)] 1 [0x0D#8])) =
      some ([.none], 2, [(0, 0x55#8), (1, 0x0D#8)]) := by decide

/-- B9: the last slot is overwritten. -/
theorem test_append_overflow :
    get (fun t => (t.tokIdx, t.tok))
        (step (inEscape [(0, 0x4C#8), (1, 0x45#8), (2, 0x58#8), (3, 0x58#8)] 4 [0x59#8])) =
      some (4, [(0, 0x4C#8), (1, 0x45#8), (2, 0x58#8), (3, 0x59#8)]) := by decide

/-- B12. -/
theorem test_close_short :
    get (fun t => (t.actions, t.mode, t.tokIdx, t.tok)) (step (inEscape [(0, 0x45#8)] 1 [0x5E#8])) =
      some ([.none], .normal, 0, []) := by decide

/-- Section 2.6: `^LEXXXXX^` at its close. -/
theorem test_close_long :
    get (fun t => (t.actions, t.mode, t.tok))
        (step (inEscape [(0, 0x4C#8), (1, 0x45#8), (2, 0x58#8), (3, 0x58#8)] 4 [0x5E#8])) =
      some ([.emit 0x11#8 false], .normal, []) := by decide

/-! ## Token operations (section 2.5), each at the closing `^` -/

theorem test_le : lastAction (step (closing .enabled 0x4C#8 0x45#8)) = some (some (.emit 0x11#8 false)) := by decide
theorem test_ri : lastAction (step (closing .enabled 0x52#8 0x49#8)) = some (some (.emit 0x12#8 false)) := by decide
theorem test_up : lastAction (step (closing .disabled 0x55#8 0x50#8)) = some (some (.emit 0x13#8 true)) := by decide
theorem test_do : lastAction (step (closing .enabled 0x44#8 0x4F#8)) = some (some (.emit 0x14#8 false)) := by decide
theorem test_su : lastAction (step (closing .enabled 0x53#8 0x55#8)) = some (some (.emit 0x93#8 false)) := by decide
theorem test_sd : lastAction (step (closing .enabled 0x53#8 0x44#8)) = some (some (.emit 0x94#8 true)) := by decide
theorem test_ho : lastAction (step (closing .enabled 0x48#8 0x4F#8)) = some (some (.emit 0x20#8 true)) := by decide
theorem test_ex : lastAction (step (closing .enabled 0x45#8 0x58#8)) = some (some (.emit 0x0E#8 true)) := by decide
theorem test_ex_gated : lastAction (step (closing .disabled 0x45#8 0x58#8)) = some (some .none) := by decide
theorem test_at : lastAction (step (closing .enabled 0x41#8 0x54#8)) = some (some (.emit 0x21#8 false)) := by decide
theorem test_ca : lastAction (step (closing .enabled 0x43#8 0x41#8)) = some (some (.emit 0xA1#8 true)) := by decide
theorem test_cp : lastAction (step (closing .enabled 0x43#8 0x50#8)) = some (some (.emit 0xA2#8 true)) := by decide
theorem test_cm : lastAction (step (closing .enabled 0x43#8 0x4D#8)) = some (some (.emit 0xA3#8 false)) := by decide
theorem test_cs : lastAction (step (closing .enabled 0x43#8 0x53#8)) = some (some (.emit 0xA4#8 true)) := by decide
theorem test_d1 : lastAction (step (closing .enabled 0x44#8 0x31#8)) = some (some (.pause 100)) := by decide
theorem test_d2 : lastAction (step (closing .enabled 0x44#8 0x32#8)) = some (some (.pause 200)) := by decide
theorem test_d3 : lastAction (step (closing .enabled 0x44#8 0x33#8)) = some (some (.pause 300)) := by decide
theorem test_d4 : lastAction (step (closing .enabled 0x44#8 0x34#8)) = some (some (.pause 400)) := by decide
theorem test_d5 : lastAction (step (closing .enabled 0x44#8 0x35#8)) = some (some (.pause 500)) := by decide
theorem test_d6 : lastAction (step (closing .enabled 0x44#8 0x36#8)) = some (some (.pause 600)) := by decide
theorem test_d7 : lastAction (step (closing .enabled 0x44#8 0x37#8)) = some (some (.pause 700)) := by decide
theorem test_d8 : lastAction (step (closing .enabled 0x44#8 0x38#8)) = some (some (.pause 800)) := by decide
theorem test_d9 : lastAction (step (closing .enabled 0x44#8 0x39#8)) = some (some (.pause 900)) := by decide

theorem test_e0 :
    get (fun t => (t.actions, t.gate)) (step (closing .enabled 0x45#8 0x30#8)) = some ([.none], .disabled) := by decide
theorem test_e0_again :
    get (fun t => (t.actions, t.gate)) (step (closing .disabled 0x45#8 0x30#8)) = some ([.none], .disabled) := by decide
theorem test_e1 :
    get (fun t => (t.actions, t.gate)) (step (closing .disabled 0x45#8 0x31#8)) = some ([.none], .enabled) := by decide
theorem test_inert :
    get (fun t => (t.actions, t.gate, t.mode)) (step (closing .disabled 0x5A#8 0x5A#8)) =
      some ([.none], .disabled, .normal) := by decide

/-! ## The bus sequence (section 2.7) -/

/-- Step 1 for (0x5A, 0). -/
theorem test_bus_step_1 :
    get (fun t => (t.bus, t.phase)) (step (sending 0x5A#8 false .txData Bus.released)) =
      some (image [0, 2, 5, 7] .idle .idle, .txPar) := by decide

/-- Step 2 for (0x5A, 0) and for (0x80, 1). -/
theorem test_bus_step_2 :
    get (fun t => (t.bus, t.phase)) (step (sending 0x5A#8 false .txPar (image [0, 2, 5, 7] .idle .idle))) =
      some (image [0, 2, 5, 7] .asserted .idle, .txStrobeOn) ∧
    get (fun t => t.bus) (step (sending 0x80#8 true .txPar (image [0, 1, 2, 3, 4, 5, 6] .idle .idle))) =
      some (image [0, 1, 2, 3, 4, 5, 6] .idle .idle) := by decide

/-- Step 3 for (0x3B, 1), held for `STROBE_HOLD`. -/
theorem test_bus_step_3 :
    get (fun t => (t.bus, t.phase, t.tmr, t.trace)) (step (sending 0x3B#8 true .txStrobeOn (image [2, 6, 7] .idle .idle))) =
      some (image [2, 6, 7] .idle .asserted, .txHold, 2, [(image [2, 6, 7] .idle .asserted, .strobe 2)]) := by decide

/-- Step 4: no line changes. -/
theorem test_bus_step_4 :
    get (fun t => (t.bus, t.phase)) (step (sending 0xFF#8 false .txHold (image [] .asserted .asserted))) =
      some (image [] .asserted .asserted, .txStrobeOff) := by decide

/-- Step 5 for (0xFF, 0). -/
theorem test_bus_step_5 :
    get (fun t => (t.bus, t.phase)) (step (sending 0xFF#8 false .txStrobeOff (image [] .asserted .asserted))) =
      some (image [] .asserted .idle, .txRelease) := by decide

/-- Step 6 for (0x0E, 1). -/
theorem test_bus_step_6 :
    get (fun t => (t.bus, t.phase)) (step (sending 0x0E#8 true .txRelease (image [0, 4, 5, 6, 7] .idle .idle))) =
      some (Bus.released, .idle) := by decide

/-- A pause holds the bus idle and takes no byte (S5). -/
theorem test_pause_counts :
    get (fun t => (t.bus, t.phase, t.tmr, t.input))
        (step { inNormal .enabled [0x41#8] with phase := .pause, tmr := 300 }) =
      some (Bus.released, .pause, 299, [0x41#8]) := by decide

/-- `^D9^^D9^` at its second `^`: after the pause the idle image stands for a draw (R11, R126). -/
theorem test_gap_after_pause :
    get (fun t => (t.trace.map Prod.fst, t.draws))
        (step { inNormal .enabled [0x5E#8] with actions := [.pause 900], trace := [(Bus.released, .pause 900)] }) =
      some ([Bus.released, Bus.released], 1) := by decide

/-- P1: the gaps after a `None` add no image after a transmission's five, they lengthen the last. -/
theorem test_gap_after_none :
    get (fun t => (t.trace.map Prod.fst, t.draws))
        (step { inEscape [] 0 [0x55#8] with actions := [.none], trace := [(Bus.released, .draw 7)], draws := 4 }) =
      some ([Bus.released], 5) := by decide

/-- P1: no gap stands before the first byte, and the one after an `Emit` is step 6's. -/
theorem test_gap_after_emit :
    get (fun t => (t.trace, t.draws)) (step (inNormal .enabled [0x41#8])) = some ([], 0) ∧
    get (fun t => (t.trace, t.draws))
        (step { inNormal .enabled [0x41#8] with
          actions := [.emit 0x5A#8 false], trace := [(Bus.released, .strobe 2)], draws := 4 }) =
      some ([(Bus.released, .strobe 2)], 4) := by decide

/-- The check of R103 on the negative vector of section 2.7: `Emit(0x5A, 1)` faults. -/
theorem test_parity_mismatch : carryOut State.reset (.emit 0x5A#8 true) = .fault .parityMismatch := by rfl

/-! ## Reset (section 2.8) and the host's placing of a word -/

theorem test_restart_in_pause :
    get (fun t => ((t.mode, t.gate), (t.tokIdx, t.tok)))
        (step { inEscape [(2, 0x41#8)] 3 [] with gate := .disabled, phase := .pause, tmr := 450, resetReq := true }) =
      some ((.normal, .enabled), (0, [])) ∧
    get (fun t => (t.phase, t.tmr))
        (step { inEscape [(2, 0x41#8)] 3 [] with gate := .disabled, phase := .pause, tmr := 450, resetReq := true }) =
      some (.idle, 0) := by decide

theorem test_restart_in_hold :
    get (fun t => (t.bus, t.phase))
        (step { sending 0x5A#8 false .txHold (image [0, 2, 5, 7] .asserted .asserted) with resetReq := true }) =
      some (Bus.released, .idle) := by decide

theorem test_placed_key : lastAction (step (State.reset.withFetchWord 16 0x041)) = some (some (.emit 0x5A#8 false)) := by decide
theorem test_placed_append :
    get (fun t => t.tok) (step (State.reset.withFetchWord 16 0x155)) = some [(0, 0x55#8)] := by decide
theorem test_placed_token : lastAction (step (State.reset.withFetchWord 16 0x4433)) = some (some (.pause 300)) := by decide
theorem test_placed_empty : lastAction (step (State.reset.withFetchWord 0 0)) = some (some .none) := by decide

/-! ## Witnesses: the statements' hypotheses are met -/

/-- `DecodeEncodeRoundTrip`, over every kind of operand. -/
theorem test_witness_round_trip :
    (Instr.nKey 0x7A#8).wellFormed Config.tc = true ∧ (Instr.nDrop 0xFF#8).wellFormed Config.tc = true ∧
    (Instr.eAppend 0x00#8).wellFormed Config.tc = true ∧ (Instr.eAppend 0xFF#8).wellFormed narrow = true ∧
    Instr.tSD.wellFormed Config.tc = true ∧ Instr.tInert.wellFormed narrow = true := by decide

/-- `ByteWordsDecodeUniquely` and `TokenWordsDecodeUniquely`, their last clauses. -/
theorem test_witness_unique :
    ((Instr.eAppend 0xFF#8).wellFormed Config.tc = true ∧ encode (.eAppend 0xFF#8) = .byte 0x1FF#9) ∧
    (Instr.tE1.wellFormed Config.tc = true ∧ Instr.tE1 ≠ .tInert ∧ encode .tE1 = .token true 0x4531#16) := by decide

/-- `LegalTableLookups`. -/
theorem test_witness_lookup : legal Config.tc = true ∧ (25 : Nat) < 26 ∧ lookup Config.tc 0x7A#8 = some 0xFF#8 := by decide

/-- `NKeySendsItsCode`: the gate open, the gate shut on Execute, the gate shut on another code. -/
theorem test_witness_key :
    (lookup (inNormal .enabled []).cfg 0x0D#8 = some 0x0E#8 ∧ (inNormal .enabled []).gate = .enabled) ∧
    (lookup (inNormal .disabled []).cfg 0x0D#8 = some 0x0E#8 ∧ (0x0E#8 : Byte) = (inNormal .disabled []).cfg.scExecute ∧
      (inNormal .disabled []).gate = .disabled) ∧
    (lookup (inNormal .disabled []).cfg 0x41#8 = some 0x5A#8 ∧ (0x5A#8 : Byte) ≠ (inNormal .disabled []).cfg.scExecute) := by
  decide

/-- `AppendStoresOneSlot`: below the cap at 3, and at the cap. -/
theorem test_witness_append :
    ((inEscape [(0, 0x4C#8)] 3 []).tok.wf = true ∧
      (inEscape [(0, 0x4C#8)] 3 []).tokIdx < (inEscape [(0, 0x4C#8)] 3 []).cfg.tokenCap) ∧
    ((inEscape [(0, 0x4C#8)] 4 []).tok.wf = true ∧
      (inEscape [(0, 0x4C#8)] 4 []).cfg.tokenCap ≤ (inEscape [(0, 0x4C#8)] 4 []).tokIdx) := by decide

/-- `OverflowKeepsTheToken`, at its boundary of two stored bytes. -/
theorem test_witness_overflow :
    legal (closing .enabled 0x55#8 0x50#8).cfg = true ∧ (closing .enabled 0x55#8 0x50#8).tok.wf = true ∧
    2 ≤ (closing .enabled 0x55#8 0x50#8).tokIdx ∧
    ∃ t : State, exec (.eAppend 0x41#8) (closing .enabled 0x55#8 0x50#8) = .next t :=
  ⟨by decide, by decide, by decide, _, rfl⟩

/-- The rows (`TokenRow`, `ScanRow`, `PauseRow`): a recognized row over an open sequence that holds it, more bytes than two. -/
theorem test_witness_rows :
    Instr.tSU.recognized (inEscape [(0, 0x53#8), (1, 0x55#8), (2, 0x41#8)] 3 []).cfg = true ∧
    2 ≤ (inEscape [(0, 0x53#8), (1, 0x55#8), (2, 0x41#8)] 3 []).tokIdx ∧
    tokenWord ((inEscape [(0, 0x53#8), (1, 0x55#8), (2, 0x41#8)] 3 []).tok.read 0)
      ((inEscape [(0, 0x53#8), (1, 0x55#8), (2, 0x41#8)] 3 []).tok.read 1) = 0x5355#16 ∧
    legal Config.tc = true := by decide

/-- `InertTokensDoNothing`: one byte stored, and two that are no key. -/
theorem test_witness_inert :
    (inEscape [(0, 0x45#8)] 1 []).tokIdx < 2 ∧
    tokenWord ((closing .enabled 0x5A#8 0x5A#8).tok.read 0) ((closing .enabled 0x5A#8 0x5A#8).tok.read 1) ∉
      [0x4C45#16, 0x5249#16, 0x5550#16, 0x444F#16, 0x5355#16, 0x5344#16, 0x484F#16, 0x4558#16, 0x4154#16, 0x4341#16,
       0x4350#16, 0x434D#16, 0x4353#16, 0x4431#16, 0x4432#16, 0x4433#16, 0x4434#16, 0x4435#16, 0x4436#16, 0x4437#16,
       0x4438#16, 0x4439#16, 0x4530#16, 0x4531#16] := by decide

/-- `FlagsAndBufferFrame`: its first three clauses at `N.KEY`, its last at an `E.CLOSE` over `UP`. -/
theorem test_witness_frame :
    (∃ t : State, exec (.nKey 0x41#8) (inNormal .enabled []) = .next t) ∧
    (∃ t : State, exec .eClose (closing .enabled 0x55#8 0x50#8) = .next t) ∧
    (closing .enabled 0x55#8 0x50#8).closingToken ≠ .tE0 ∧ (closing .enabled 0x55#8 0x50#8).closingToken ≠ .tE1 := by
  obtain ⟨t, ht, -⟩ := next_of_get (f := fun t => t.mode) (r := exec (.nKey 0x41#8) (inNormal .enabled [])) (x := .normal)
    (by decide)
  obtain ⟨u, hu, -⟩ := next_of_get (f := fun t => t.mode) (r := exec .eClose (closing .enabled 0x55#8 0x50#8)) (x := .normal)
    (by decide)
  exact ⟨⟨t, ht⟩, ⟨u, hu⟩, by decide, by decide⟩

/-- `StepRunsTheDecodedOperation`, `TranslateSelectsTheOperation`: ready, with a byte, in both modes. -/
theorem test_witness_ready :
    (legal (inNormal .enabled [0x41#8]).cfg = true ∧ (inNormal .enabled [0x41#8]).resetReq = false ∧
      (inNormal .enabled [0x41#8]).phase = .idle ∧ (inNormal .enabled [0x41#8]).input = [0x41#8]) ∧
    (legal (inEscape [] 0 [0x5E#8]).cfg = true ∧ (inEscape [] 0 [0x5E#8]).resetReq = false ∧
      (inEscape [] 0 [0x5E#8]).phase = .idle ∧ (inEscape [] 0 [0x5E#8]).input = [0x5E#8]) := by decide

/-- `GapsBetweenActionsAreDrawn`: before the first action, after an `Emit`, after a `None` whose image is lengthened, and after
a `Pause` whose image is followed by a new entry. -/
theorem test_witness_gaps :
    (∀ s ∈ [inNormal .enabled [0x41#8],
            { inNormal .enabled [0x41#8] with actions := [.emit 0x5A#8 false] },
            { inNormal .enabled [0x41#8] with actions := [.none], trace := [(Bus.released, .draw 7)] },
            { inNormal .enabled [0x41#8] with actions := [.pause 900], trace := [(Bus.released, .pause 900)] }],
      legal s.cfg = true ∧ s.resetReq = false ∧ s.phase = .idle ∧ s.input = [0x41#8] ∧
      (s.actions = [] ∨ s.actions.getLast? = some (.emit 0x5A#8 false) ∨
        s.actions.getLast? = some .none ∧ s.trace = [] ++ [(s.bus, .draw 7)] ∨ s.actions.getLast? = some (.pause 900))) ∧
    ∀ l h, [(Bus.released, Hold.pause 900)] ≠ l ++ [(Bus.released, Hold.draw h)] := by
  refine ⟨by decide, fun l h e => ?_⟩
  have := congrArg List.getLast? e
  simp at this

/-- `IllegalConfigurationIsRefused`: `TOKEN_CAP` one below its bound. -/
theorem test_witness_illegal :
    legal ({ State.reset with cfg := { Config.tc with tokenCap := 2 } } : State).cfg = false := by decide

/-- `LegalStepsAlwaysAnswer`, `PlacedWordRunsNext`, `WaitsWithoutInput`, `InvariantAtReset`. -/
theorem test_witness_waiting :
    legal State.reset.cfg = true ∧ State.reset.resetReq = false ∧ State.reset.phase = .idle ∧ State.reset.input = [] := by
  decide

/-- `ConfigurationNeverChanges`, `OneActionPerByte`, `ModeChangesOnlyOnCaret`, `GateChangesOnlyOnGateTokens`: a step that
takes a `^`, closes `E0` and changes the gate. -/
theorem test_witness_gate_change :
    (closing .enabled 0x45#8 0x30#8).resetReq = false ∧
    ∃ t : State, step (closing .enabled 0x45#8 0x30#8) = .next t ∧ t.gate ≠ (closing .enabled 0x45#8 0x30#8).gate := by
  obtain ⟨t, ht, hg⟩ := next_of_get (f := fun t => t.gate) (r := step (closing .enabled 0x45#8 0x30#8)) (x := .disabled)
    (by decide)
  refine ⟨by decide, t, ht, ?_⟩
  rw [hg]
  decide

/-- `BusyStepsTakeNoInput` and `LinesChangeOnlyInATransmission`: a busy step that changes the lines. -/
theorem test_witness_lines :
    (sending 0x5A#8 false .txData Bus.released).resetReq = false ∧
    (sending 0x5A#8 false .txData Bus.released).phase ≠ .idle ∧
    ∃ t : State, step (sending 0x5A#8 false .txData Bus.released) = .next t ∧
      t.bus ≠ (sending 0x5A#8 false .txData Bus.released).bus := by
  obtain ⟨t, ht, hb⟩ := next_of_get (f := fun t => t.bus) (r := step (sending 0x5A#8 false .txData Bus.released))
    (x := image [0, 2, 5, 7] .idle .idle) (by decide)
  refine ⟨by decide, by decide, t, ht, ?_⟩
  rw [hb]
  decide

/-- `RestartTakesEffectAtOnce`. -/
theorem test_witness_restart :
    legal ({ State.reset with resetReq := true, phase := .txHold } : State).cfg = true ∧
    ({ State.reset with resetReq := true, phase := .txHold } : State).resetReq = true := by decide

/-- `BusStepsOneToThree`, `BusStepsFiveAndSix`: each phase of them is reachable by its own clause. -/
theorem test_witness_bus_steps : ∀ ph ∈ [Phase.txData, .txPar, .txStrobeOn, .txStrobeOff, .txRelease],
    legal (sending 0x5A#8 false ph Bus.released).cfg = true ∧ (sending 0x5A#8 false ph Bus.released).resetReq = false ∧
    (sending 0x5A#8 false ph Bus.released).phase = ph := by decide

/-- `HoldAndPauseCountDown`, at the timers 1 and 0 of both phases. -/
theorem test_witness_count_down : ∀ ph ∈ [Phase.txHold, .pause], ∀ n ∈ [0, 1],
    legal ({ sending 0x5A#8 false ph Bus.released with tmr := n } : State).cfg = true ∧
    ({ sending 0x5A#8 false ph Bus.released with tmr := n } : State).resetReq = false ∧
    ({ sending 0x5A#8 false ph Bus.released with tmr := n } : State).phase = ph ∧
    ({ sending 0x5A#8 false ph Bus.released with tmr := n } : State).tmr = n := by decide

/-- `OneTransmissionIsFiveImages`, `EveryActionEnds`. -/
theorem test_witness_transmission :
    legal (sending 0xFF#8 false .txData Bus.released).cfg = true ∧
    (sending 0xFF#8 false .txData Bus.released).resetReq = false ∧
    (sending 0xFF#8 false .txData Bus.released).phase = .txData ∧
    (sending 0xFF#8 false .txData Bus.released).bus = Bus.released := by decide

/-- `PauseRunsToItsEnd`, with a step of the countdown at its last value. -/
theorem test_witness_pause :
    legal ({ State.reset with phase := .pause, tmr := 900 } : State).cfg = true ∧
    ({ State.reset with phase := .pause, tmr := 900 } : State).resetReq = false ∧
    ({ State.reset with phase := .pause, tmr := 900 } : State).phase = .pause ∧
    900 ≤ ({ State.reset with phase := .pause, tmr := 900 } : State).tmr := by decide

/-- `SequenceIsItsFirstTwoBytes`, for no inner byte and for more than `TOKEN_CAP` of them. -/
theorem test_witness_sequence : ∀ xs ∈ [[], [0x55#8, 0x50#8, 0x44#8, 0x41#8, 0x54#8, 0x45#8]],
    legal (inNormal .enabled (caret :: (xs ++ caret :: []))).cfg = true ∧
    (inNormal .enabled (caret :: (xs ++ caret :: []))).resetReq = false ∧
    (inNormal .enabled (caret :: (xs ++ caret :: []))).phase = .idle ∧
    (inNormal .enabled (caret :: (xs ++ caret :: []))).mode = .normal ∧ (∀ x ∈ xs, x ≠ caret) ∧
    (inNormal .enabled (caret :: (xs ++ caret :: []))).input = caret :: (xs ++ caret :: []) := by decide

/-- `OpenSequenceSwallowsText`, CR and a letter among the text. -/
theorem test_witness_open :
    legal (inEscape [] 0 [0x0D#8, 0x41#8]).cfg = true ∧ (inEscape [] 0 [0x0D#8, 0x41#8]).resetReq = false ∧
    (inEscape [] 0 [0x0D#8, 0x41#8]).phase = .idle ∧ (inEscape [] 0 [0x0D#8, 0x41#8]).mode = .escape ∧
    (∀ x ∈ [0x0D#8, 0x41#8], x ≠ caret) ∧ (inEscape [] 0 [0x0D#8, 0x41#8]).input = [0x0D#8, 0x41#8] ++ [] := by decide

/-- `ReturnBytesGoThroughTheGate`: both bytes, both gates. -/
theorem test_witness_return : ∀ g ∈ [Gate.enabled, .disabled], ∀ b ∈ [0x0D#8, 0x0A#8],
    legal (inNormal g [b]).cfg = true ∧ (inNormal g [b]).resetReq = false ∧ (inNormal g [b]).phase = .idle ∧
    (inNormal g [b]).mode = .normal ∧ (inNormal g [b]).input = b :: [] ∧ (inNormal g [b]).gate = g := by decide

/-- `DisabledGateSendsNoExecute`, at the CR that would have sent it. -/
theorem test_witness_disabled :
    (inNormal .disabled [0x0D#8]).gate = .disabled ∧ ∃ t : State, step (inNormal .disabled [0x0D#8]) = .next t := by
  obtain ⟨t, ht, -⟩ := next_of_get (f := fun t => t.mode) (r := step (inNormal .disabled [0x0D#8])) (x := .normal) (by decide)
  exact ⟨by decide, t, ht⟩

/-- `GateOnlyAffectsExecute`: an operation that sends another code, and one that sends Execute. -/
theorem test_witness_gate_only :
    (∃ t : State, exec .tUP { State.reset with gate := .enabled } = .next t ∧ t.actions = [.emit 0x13#8 true] ∧
      ∀ p, t.actions ≠ State.reset.actions ++ [.emit State.reset.cfg.scExecute p]) ∧
    ∃ t : State, exec .tEX { State.reset with gate := .enabled } = .next t ∧
      t.actions = State.reset.actions ++ [.emit State.reset.cfg.scExecute true] := by
  obtain ⟨t, ht, ha⟩ := next_of_get (f := fun t => t.actions) (r := exec .tUP { State.reset with gate := .enabled })
    (x := [.emit 0x13#8 true]) (by decide)
  obtain ⟨u, hu, hb⟩ := next_of_get (f := fun t => t.actions) (r := exec .tEX { State.reset with gate := .enabled })
    (x := State.reset.actions ++ [.emit State.reset.cfg.scExecute true]) (by decide)
  refine ⟨⟨t, ht, ha, ?_⟩, u, hu, hb⟩
  rw [ha]
  decide

/-- `LaterSlotsAreNeverRead`: two buffers that differ in slot 2 only, at their closing `^`. -/
theorem test_witness_later_slots :
    (inEscape [(0, 0x55#8), (1, 0x50#8), (2, 0x41#8)] 3 [0x5E#8]).tok.wf = true ∧
    Memory.wf [(0, 0x55#8), (1, 0x50#8), (2, 0x42#8)] = true ∧
    Memory.read [(0, 0x55#8), (1, 0x50#8), (2, 0x42#8)] 0 =
      (inEscape [(0, 0x55#8), (1, 0x50#8), (2, 0x41#8)] 3 [0x5E#8]).tok.read 0 ∧
    Memory.read [(0, 0x55#8), (1, 0x50#8), (2, 0x42#8)] 1 =
      (inEscape [(0, 0x55#8), (1, 0x50#8), (2, 0x41#8)] 3 [0x5E#8]).tok.read 1 ∧
    ∃ t : State, step (inEscape [(0, 0x55#8), (1, 0x50#8), (2, 0x41#8)] 3 [0x5E#8]) = .next t := by
  obtain ⟨t, ht, -⟩ := next_of_get (f := fun t => t.mode)
    (r := step (inEscape [(0, 0x55#8), (1, 0x50#8), (2, 0x41#8)] 3 [0x5E#8])) (x := .normal) (by decide)
  exact ⟨by decide, by decide, by decide, by decide, t, ht⟩

/-- `EveryActionIsLawful`: a step that adds an action. -/
theorem test_witness_action :
    ∃ t : State, step (inNormal .enabled [0x41#8]) = .next t ∧
      t.actions = (inNormal .enabled [0x41#8]).actions ++ [.emit 0x5A#8 false] := by
  obtain ⟨t, ht, ha⟩ := next_of_get (f := fun t => t.actions) (r := step (inNormal .enabled [0x41#8]))
    (x := [.emit 0x5A#8 false]) (by decide)
  exact ⟨t, ht, ha⟩

/-- `EveryStepKeepsTheInvariant`, `StrobedLinesAreOdd`: a state that meets the invariant, not the reset state, and whose
next step asserts the strobe. -/
theorem test_witness_invariant :
    Inv (sending 0x5A#8 false .txStrobeOn (image [0, 2, 5, 7] .asserted .idle)) ∧
    ∃ t : State, step (sending 0x5A#8 false .txStrobeOn (image [0, 2, 5, 7] .asserted .idle)) = .next t ∧
      t.bus.s = .asserted := by
  obtain ⟨t, ht, hb⟩ := next_of_get (f := fun t => t.bus.s)
    (r := step (sending 0x5A#8 false .txStrobeOn (image [0, 2, 5, 7] .asserted .idle))) (x := .asserted) (by decide)
  refine ⟨?_, t, ht, hb⟩
  constructor <;> decide

/-- The invariant also holds of a state in an open sequence. -/
theorem test_witness_invariant_escape : Inv (inEscape [(0, 0x55#8), (1, 0x50#8)] 2 [0x5E#8]) := by
  constructor <;> decide

end Sys2Proof.Tests
end

section
/-! PROOFS. The statements of spec/00_scope.md: the parameters of R7 to R10 and their constraints, the step that takes a
byte, the OPEN draws of R11, and the bus steps between which they lie. -/

namespace Sys2Proof.Machine

/-! ## `HAS_SHIFT_ARROWS` (R10, R101) -/

/-- SU and SD are the only operations whose recognition depends on the configuration. -/
theorem recognized_of_ne_shiftArrow {i : Instr} (cfg : Config) (hu : i ≠ .tSU) (hd : i ≠ .tSD) :
    i.recognized cfg = true := by
  cases i
  case tSU => exact absurd rfl hu
  case tSD => exact absurd rfl hd
  all_goals rfl

@[simp] theorem keyedToken_SU : keyedToken 0x5355#16 = some .tSU := rfl

@[simp] theorem keyedToken_SD : keyedToken 0x5344#16 = some .tSD := rfl

/-- A keyed row other than those of SU and SD is recognized under every configuration. -/
theorem keyedToken_recognized {t : TokenWord} {i : Instr} (h : keyedToken t = some i) (hu : t ≠ 0x5355#16)
    (hd : t ≠ 0x5344#16) (cfg : Config) : i.recognized cfg = true := by
  obtain ⟨-, henc⟩ := keyedToken_row h
  refine recognized_of_ne_shiftArrow cfg ?_ ?_
  · rintro rfl
    exact hu (by simpa [encode] using henc.symm)
  · rintro rfl
    exact hd (by simpa [encode] using henc.symm)

/-- Off the words of SU and SD the decoder does not depend on the configuration. -/
theorem decodeToken_congr_cfg {t : TokenWord} (hu : t ≠ 0x5355#16) (hd : t ≠ 0x5344#16) (cfg cfg' : Config) (v : Bool) :
    decodeToken cfg v t = decodeToken cfg' v t := by
  cases hk : keyedToken t with
  | none => simp [decodeToken, hk]
  | some i => simp [decodeToken, hk, keyedToken_recognized hk hu hd]

/-- SU and SD are inert where they are not recognized, whatever the valid bit. -/
theorem decodeToken_shiftArrow {cfg : Config} (h : cfg.hasShiftArrows = false) {t : TokenWord}
    (ht : t = 0x5355#16 ∨ t = 0x5344#16) (v : Bool) : decodeToken cfg v t = .tInert := by
  rcases ht with rfl | rfl <;> simp [decodeToken, Instr.recognized, h]

/-- Settles O5: the keyed rows other than SU and SD are recognized under every configuration. -/
theorem narrowDeploymentDropsShiftArrows : Obligations.NarrowDeploymentDropsShiftArrows := by
  intro cfg v t
  by_cases ht : t = 0x5355#16 ∨ t = 0x5344#16
  · rw [if_pos ht, decodeToken_shiftArrow rfl ht]
  · rw [if_neg ht]
    obtain ⟨hu, hd⟩ := not_or.mp ht
    exact decodeToken_congr_cfg hu hd _ _ v

/-! ## The step that takes a byte (R28, R66) -/

/-- Settles O22: `step_take`, the input written out. -/
theorem stepRunsTheDecodedOperation : Obligations.StepRunsTheDecodedOperation :=
  fun s _ _ hl hr hp hi => step_take s hl hr hp hi

/-! ## The gap between two actions (R11) -/

/-- After an `Emit` the gap is step 6's draw, and before the first action there is none: nothing is drawn. -/
theorem afterGap_of_noGap {s : State} (h : s.actions = [] ∨ ∃ c p, s.actions.getLast? = some (.emit c p)) :
    s.afterGap = s := by
  unfold State.afterGap
  rcases h with h | ⟨c, p, h⟩ <;> simp [h]

/-- After a `None` or a `Pause` the standing image is held for one more draw. -/
theorem afterGap_of_gap {s : State}
    (h : s.actions.getLast? = some .none ∨ ∃ ms, s.actions.getLast? = some (.pause ms)) :
    s.afterGap = s.standForDraw := by
  unfold State.afterGap
  rcases h with h | ⟨ms, h⟩ <;> simp [h]

/-- A last entry that is the standing image held for a draw is lengthened. -/
theorem lengthen_append_draw (l : List (Bus × Hold)) (b : Bus) (h g : Nat) :
    lengthen (l ++ [(b, Hold.draw h)]) b g = l ++ [(b, Hold.draw (h + g))] := by
  simp [lengthen]

/-- Any other trace gets the standing image as a new entry. -/
theorem lengthen_of_ne_draw {tr : List (Bus × Hold)} {b : Bus} (h : ∀ l n, tr ≠ l ++ [(b, Hold.draw n)]) (g : Nat) :
    lengthen tr b g = tr ++ [(b, Hold.draw g)] := by
  unfold lengthen
  split
  · rename_i b' n hlast
    obtain ⟨l, hl⟩ := List.getLast?_eq_some_iff.mp hlast
    refine if_neg ?_
    rintro rfl
    exact h l n hl
  all_goals rfl

/-- Settles O52, with the state after the gap (`State.afterGap`) as the witness. -/
theorem gapsBetweenActionsAreDrawn : Obligations.GapsBetweenActionsAreDrawn := by
  intro s b rest hl hr hp hi
  refine ⟨s.afterGap, step_take s hl hr hp hi, afterGap_of_noGap, fun hgap => ⟨fun l h htr => ?_, fun htr => ?_⟩⟩
  · rw [afterGap_of_gap hgap, State.standForDraw, htr, lengthen_append_draw]
  · rw [afterGap_of_gap hgap, State.standForDraw, lengthen_of_ne_draw htr]

/-! ## Every meaning answers -/

theorem execNKey_answers (b : Byte) (s : State) : ∃ t, execNKey b s = .next t := by
  unfold execNKey
  split
  · exact ⟨_, carryOut_gatedEmit _ _⟩
  · exact ⟨_, carryOut_none _⟩

/-- Every token operation answers a next state: its action is a gated code, a pause or `None`. -/
theorem runToken_answers (i : Instr) (s : State) : ∃ t, runToken i s = .next t := by
  cases i
  case tLE | tRI | tUP | tDO | tSU | tSD | tHO | tEX | tAT | tCA | tCP | tCM | tCS =>
    exact ⟨_, carryOut_gatedEmit s _⟩
  case tD1 | tD2 | tD3 | tD4 | tD5 | tD6 | tD7 | tD8 | tD9 => exact ⟨_, carryOut_pause s _⟩
  all_goals exact ⟨_, carryOut_none _⟩

/-- Every operation answers a next state, in every state: neither a fault nor a refusal. -/
theorem exec_answers (i : Instr) (s : State) : ∃ t, exec i s = .next t := by
  cases hi : i.isByteOp with
  | false => rw [← runToken_eq_exec hi]; exact runToken_answers i s
  | true =>
    cases i
    case nKey b => exact execNKey_answers b s
    case eClose => exact runToken_answers s.closingToken s.closeSequence
    case nOpen | nDrop | eAppend => exact ⟨_, carryOut_none _⟩
    all_goals cases hi

/-- Under a legal configuration every step answers a next state. -/
theorem step_answers {s : State} (hl : legal s.cfg = true) : ∃ t, step s = .next t := by
  rw [step_eq, if_neg (by simp [hl])]
  split
  · exact ⟨_, rfl⟩
  · split
    · cases s.input with
      | nil => exact ⟨_, rfl⟩
      | cons b rest => exact exec_answers _ _
    · exact ⟨_, rfl⟩

/-! ## The constraints on a configuration (R8, R9, R59, R138) -/

/-- A step is refused for its configuration exactly when that configuration is illegal. -/
theorem step_eq_refused_iff (s : State) : step s = .refused .illegalConfig ↔ legal s.cfg = false := by
  cases hl : legal s.cfg with
  | false => simp [step_eq, hl]
  | true =>
    obtain ⟨t, ht⟩ := step_answers hl
    simp [ht]

theorem legalSizes_eq_false_iff (cfg : Config) :
    legalSizes cfg = false ↔
      (cfg.tokenCap < 3 ∨ cfg.strobeHold = 0 ∨ cfg.strobeHold ≤ cfg.tMinPulse ∨ cfg.tKeyRepeat ≤ cfg.strobeHold) ∨
        cfg.ticksPerMs = 0 := by
  simp [legalSizes, or_assoc, imp_iff_not_or]

theorem legalCodes_eq_false_iff (cfg : Config) :
    legalCodes cfg = false ↔
      cfg.scLeft = 0x00#8 ∨ cfg.scRight = 0x00#8 ∨ cfg.scUp = 0x00#8 ∨ cfg.scDown = 0x00#8 ∨
        cfg.scShiftUp = 0x00#8 ∨ cfg.scShiftDown = 0x00#8 ∨ cfg.scHold = 0x00#8 ∨ cfg.scExecute = 0x00#8 ∨
        cfg.scAttn = 0x00#8 ∨ cfg.scCmdAttn = 0x00#8 ∨ cfg.scCmdPlus = 0x00#8 ∨ cfg.scCmdMinus = 0x00#8 ∨
        cfg.scCmdMult = 0x00#8 := by
  simp only [legalCodes, scanCodes, List.all_cons, List.all_nil, Bool.and_eq_false_iff, bne_eq_false_iff_eq, Bool.true_eq_false,
    or_false]

/-- The entry of a byte written as a number below 256. -/
theorem codeEntry_ofNat (cfg : Config) {n : Nat} (h : n < 256) :
    codeEntry cfg (BitVec.ofNat 8 n) = cfg.codeTable.read n := by
  rw [codeEntry, BitVec.toNat_ofNat, Nat.mod_eq_of_lt h]

theorem lettersFold_eq_false_iff (cfg : Config) :
    lettersFold cfg = false ↔
      ∃ k < 26, codeEntry cfg (BitVec.ofNat 8 (0x61 + k)) ≠ codeEntry cfg (BitVec.ofNat 8 (0x41 + k)) := by
  simp only [lettersFold, List.all_eq_false, List.mem_range, beq_iff_eq]
  refine exists_congr fun k => and_congr_right fun hk => ?_
  rw [codeEntry_ofNat cfg (by omega), codeEntry_ofNat cfg (by omega)]

theorem legalTable_eq_false_iff (cfg : Config) :
    legalTable cfg = false ↔
      (cfg.codeTable.wf = false ∨ cfg.codeTable.within 256 = false) ∨
        (codeEntry cfg 0x5E#8 ≠ 0x00#8 ∨
          (∃ k < 26, codeEntry cfg (BitVec.ofNat 8 (0x61 + k)) ≠ codeEntry cfg (BitVec.ofNat 8 (0x41 + k))) ∨
          codeEntry cfg 0x41#8 = 0x00#8 ∨ codeEntry cfg 0x0D#8 ≠ cfg.scExecute ∨
          codeEntry cfg 0x0A#8 ≠ cfg.scExecute) := by
  rw [← lettersFold_eq_false_iff]
  simp only [legalTable, Bool.and_eq_false_iff, beq_eq_false_iff_ne, bne_eq_false_iff_eq, or_assoc]

/-- The order in which R8, R9 and R59 are named, against the order in which `legal` checks them. -/
theorem or_groups_comm (wf within entries codes sizes ticks : Prop) :
    (((wf ∨ within) ∨ entries) ∨ codes) ∨ (sizes ∨ ticks) ↔ sizes ∨ codes ∨ entries ∨ (wf ∨ within ∨ ticks) := by
  tauto

/-- Settles O53: every operation answers, so only an illegal configuration is refused, and its three parts are taken
constraint by constraint. -/
theorem brokenConstraintsAreRefused : Obligations.BrokenConstraintsAreRefused := by
  intro s
  rw [step_eq_refused_iff, legal, Bool.and_eq_false_iff, Bool.and_eq_false_iff, legalTable_eq_false_iff,
    legalCodes_eq_false_iff, legalSizes_eq_false_iff]
  exact or_groups_comm _ _ _ _ _ _

/-! ## The bus steps (R104 to R109) -/

section BusSteps

variable {s : State} (hl : legal s.cfg = true) (hr : s.resetReq = false)
include hl hr

theorem step_txData (hp : s.phase = .txData) : step s = .next (stepTxData s) := by
  rw [step_busy s hl hr hp (by decide), busyStep, hp]

theorem step_txPar (hp : s.phase = .txPar) : step s = .next (stepTxPar s) := by
  rw [step_busy s hl hr hp (by decide), busyStep, hp]

theorem step_txStrobeOn (hp : s.phase = .txStrobeOn) : step s = .next (stepTxStrobeOn s) := by
  rw [step_busy s hl hr hp (by decide), busyStep, hp]

theorem step_txStrobeOff (hp : s.phase = .txStrobeOff) : step s = .next (stepTxStrobeOff s) := by
  rw [step_busy s hl hr hp (by decide), busyStep, hp]

theorem step_txRelease (hp : s.phase = .txRelease) : step s = .next (stepTxRelease s) := by
  rw [step_busy s hl hr hp (by decide), busyStep, hp]

end BusSteps

theorem assertZeroBits_getElem (c : Byte) (d : Vector Line 8) (i : Fin 8) :
    (assertZeroBits c d)[i] = if c.getLsbD i = false then .asserted else d[i] := by
  simp [assertZeroBits]

/-- Settles O36: each phase's step is its bus step, whose record the statement writes out. -/
theorem busStepsOneToThree : Obligations.BusStepsOneToThree := by
  intro s hl hr
  refine ⟨fun hp => ?_, fun hp => ?_, fun hp => ?_⟩
  · exact ⟨assertZeroBits s.txCode s.bus.d, Config.freeGap s.draws, assertZeroBits_getElem _ _, step_txData hl hr hp⟩
  · exact ⟨_, Config.freeGap s.draws, rfl, step_txPar hl hr hp⟩
  · exact step_txStrobeOn hl hr hp

/-- Settles O37: step 6's data lines are eight idle ones, which with an idle strobe are the released bus. -/
theorem busStepsFiveAndSix : Obligations.BusStepsFiveAndSix := by
  intro s hl hr
  refine ⟨fun hp => ⟨Config.freeGap s.draws, step_txStrobeOff hl hr hp⟩, fun hp => ?_⟩
  refine ⟨Vector.replicate 8 .idle, Config.freeGap s.draws, fun i => ?_, fun hs => ?_, step_txRelease hl hr hp⟩
  · simp
  · simp only [hs, Bus.released]

end Sys2Proof.Machine
end

section
/-! PROOFS. The statements of spec/10_state.md: what every operation, every step of the sequencer and every step of the block
write and leave unchanged, and the invariant they keep. -/

namespace Sys2Proof.Machine

/-! ## Carrying out an action (R66, R103, R126) -/

/-- An `Emit` has its code's own parity bit (R61), so that the check of `startTransmit` passes. -/
def Action.ownParity : Action → Bool
  | .none | .pause _ => true
  | .emit c p => p == parity c

/-- The state in which the action `a` is carried out. -/
def State.carried (s : State) : Action → State
  | .none => s.afterNone
  | .emit c p => ((s.record (.emit c p)).setLatch c p).setPhase .txData
  | .pause ms => s.afterPause ms

section
variable (s : State) (a : Action)

@[simp] theorem State.carried_cfg : (s.carried a).cfg = s.cfg := by cases a <;> rfl
@[simp] theorem State.carried_mode : (s.carried a).mode = s.mode := by cases a <;> rfl
@[simp] theorem State.carried_gate : (s.carried a).gate = s.gate := by cases a <;> rfl
@[simp] theorem State.carried_tok : (s.carried a).tok = s.tok := by cases a <;> rfl
@[simp] theorem State.carried_tokIdx : (s.carried a).tokIdx = s.tokIdx := by cases a <;> rfl
@[simp] theorem State.carried_bus : (s.carried a).bus = s.bus := by cases a <;> rfl

theorem State.carried_setTok (m : Memory) : (s.setTok m).carried a = (s.carried a).setTok m := by cases a <;> rfl

end

/-- An action with its own parity is carried out, whatever the state: the parity check never faults. -/
theorem carryOut_eq_carried (s : State) {a : Action} (h : a.ownParity = true) : carryOut s a = .next (s.carried a) := by
  cases a with
  | none => rfl
  | emit c p =>
    have hp : p = parity c := by simpa [Action.ownParity] using h
    exact if_pos hp
  | pause ms => rfl

theorem gatedEmit_ownParity (s : State) (c : Byte) : (gatedEmit s c).ownParity = true := by
  rcases gatedEmit_cases s c with ⟨h, -⟩ | ⟨h, -⟩ <;> simp [h, Action.ownParity]

/-! ## What an operation does: its writes to the parser's state, and its action -/

/-- The action of a token operation (R76 to R100). -/
def tokenAction (s : State) : Instr → Action
  | .tLE => gatedEmit s s.cfg.scLeft
  | .tRI => gatedEmit s s.cfg.scRight
  | .tUP => gatedEmit s s.cfg.scUp
  | .tDO => gatedEmit s s.cfg.scDown
  | .tSU => gatedEmit s s.cfg.scShiftUp
  | .tSD => gatedEmit s s.cfg.scShiftDown
  | .tHO => gatedEmit s s.cfg.scHold
  | .tEX => gatedEmit s s.cfg.scExecute
  | .tAT => gatedEmit s s.cfg.scAttn
  | .tCA => gatedEmit s s.cfg.scCmdAttn
  | .tCP => gatedEmit s s.cfg.scCmdPlus
  | .tCM => gatedEmit s s.cfg.scCmdMinus
  | .tCS => gatedEmit s s.cfg.scCmdMult
  | .tD1 => .pause 100
  | .tD2 => .pause 200
  | .tD3 => .pause 300
  | .tD4 => .pause 400
  | .tD5 => .pause 500
  | .tD6 => .pause 600
  | .tD7 => .pause 700
  | .tD8 => .pause 800
  | .tD9 => .pause 900
  | .tE0 | .tE1 | .tInert | .nOpen | .nKey _ | .nDrop _ | .eClose | .eAppend _ => .none

/-- The gate after a token operation: only E0 and E1 write it (R98, R99). -/
def tokenGate (i : Instr) (g : Gate) : Gate :=
  match i with
  | .tE0 => .disabled
  | .tE1 => .enabled
  | _ => g

/-- The action of an operation. -/
def State.actionOf (s : State) : Instr → Action
  | .nKey b => (lookup s.cfg b).elim .none (gatedEmit s)
  | .eClose => tokenAction s s.closingToken
  | i => tokenAction s i

/-- The mode after an operation (R67, R71). -/
def modeAfter (i : Instr) (m : Mode) : Mode :=
  match i with
  | .nOpen => .escape
  | .eClose => .normal
  | _ => m

/-- The gate after an operation (R98, R99), selected by a closing `^` or not. -/
def State.gateAfter (s : State) : Instr → Gate
  | .eClose => tokenGate s.closingToken s.gate
  | i => tokenGate i s.gate

/-- The token buffer after an operation (R67, R70, R71). -/
def State.tokAfter (s : State) : Instr → Memory
  | .nOpen | .eClose => []
  | .eAppend b => s.tok.write s.appendSlot b
  | _ => s.tok

/-- The buffer's index after an operation (R67, R70, R71). -/
def State.tokIdxAfter (s : State) : Instr → Nat
  | .nOpen | .eClose => 0
  | .eAppend _ => s.appendIdx
  | _ => s.tokIdx

/-- The state with an operation's own writes done and its action still to be carried out. -/
def State.parsed (s : State) (i : Instr) : State :=
  { s with mode := modeAfter i s.mode, gate := s.gateAfter i, tok := s.tokAfter i, tokIdx := s.tokIdxAfter i }

theorem tokenAction_ownParity (s : State) (i : Instr) : (tokenAction s i).ownParity = true := by
  cases i
  case tLE | tRI | tUP | tDO | tSU | tSD | tHO | tEX | tAT | tCA | tCP | tCM | tCS => exact gatedEmit_ownParity s _
  all_goals rfl

theorem runToken_eq (i : Instr) (s : State) :
    runToken i s = .next ((s.setGate (tokenGate i s.gate)).carried (tokenAction s i)) := by
  rw [← carryOut_eq_carried _ (tokenAction_ownParity s i)]
  cases i <;> rfl

/-- Every operation answers: it writes the mode, the gate and the buffer, then carries out its action. -/
theorem exec_eq (i : Instr) (s : State) : exec i s = .next ((s.parsed i).carried (s.actionOf i)) := by
  cases hi : i.isByteOp with
  | false =>
    rw [← runToken_eq_exec hi, runToken_eq]
    cases i
    case nOpen | nKey | nDrop | eClose | eAppend => cases hi
    all_goals rfl
  | true =>
    cases i
    case nOpen | nDrop | eAppend => rfl
    case nKey b =>
      change execNKey b s = .next (s.carried ((lookup s.cfg b).elim .none (gatedEmit s)))
      unfold execNKey
      cases lookup s.cfg b with
      | none => rfl
      | some c => exact carryOut_eq_carried s (gatedEmit_ownParity s c)
    case eClose => exact runToken_eq s.closingToken s.closeSequence
    all_goals cases hi

theorem eq_of_exec {i : Instr} {s t : State} (h : exec i s = .next t) : t = (s.parsed i).carried (s.actionOf i) := by
  rw [exec_eq] at h
  exact (Host.Outcome.next.inj h).symm

section
variable (s : State) (i : Instr)

@[simp] theorem State.parsed_cfg : (s.parsed i).cfg = s.cfg := rfl
@[simp] theorem State.parsed_mode : (s.parsed i).mode = modeAfter i s.mode := rfl
@[simp] theorem State.parsed_gate : (s.parsed i).gate = s.gateAfter i := rfl
@[simp] theorem State.parsed_tok : (s.parsed i).tok = s.tokAfter i := rfl
@[simp] theorem State.parsed_tokIdx : (s.parsed i).tokIdx = s.tokIdxAfter i := rfl
@[simp] theorem State.parsed_bus : (s.parsed i).bus = s.bus := rfl

end

/-! ## Which operations write the mode, the buffer and the gate (R22, R23, R37) -/

theorem modeAfter_of_ne {i : Instr} (ho : i ≠ .nOpen) (hc : i ≠ .eClose) (m : Mode) : modeAfter i m = m := by
  cases i
  case nOpen => exact absurd rfl ho
  case eClose => exact absurd rfl hc
  all_goals rfl

theorem bufferAfter_of_ne {i : Instr} (ho : i ≠ .nOpen) (hc : i ≠ .eClose) (ha : ∀ b, i ≠ .eAppend b) (s : State) :
    s.tokIdxAfter i = s.tokIdx ∧ s.tokAfter i = s.tok := by
  cases i
  case nOpen => exact absurd rfl ho
  case eClose => exact absurd rfl hc
  case eAppend b => exact absurd rfl (ha b)
  all_goals exact ⟨rfl, rfl⟩

theorem tokenGate_of_ne {i : Instr} (h0 : i ≠ .tE0) (h1 : i ≠ .tE1) (g : Gate) : tokenGate i g = g := by
  cases i
  case tE0 => exact absurd rfl h0
  case tE1 => exact absurd rfl h1
  all_goals rfl

theorem State.gateAfter_of_ne {i : Instr} (hc : i ≠ .eClose) (s : State) : s.gateAfter i = tokenGate i s.gate := by
  cases i
  case eClose => exact absurd rfl hc
  all_goals rfl

/-- Settles O21: the operation's writes (`State.parsed`), which carrying out its action leaves as they are. -/
theorem flagsAndBufferFrame : Obligations.FlagsAndBufferFrame := by
  intro i s t h
  obtain rfl := eq_of_exec h
  simp only [State.carried_mode, State.carried_gate, State.carried_tok, State.carried_tokIdx, State.parsed_mode,
    State.parsed_gate, State.parsed_tok, State.parsed_tokIdx]
  refine ⟨fun ho hc => modeAfter_of_ne ho hc _, fun ho hc ha => ?_, fun h0 h1 hc => ?_, ?_⟩
  · obtain ⟨hidx, htok⟩ := bufferAfter_of_ne ho hc ha s
    exact ⟨hidx, fun a => by rw [htok]⟩
  · rw [s.gateAfter_of_ne hc, tokenGate_of_ne h0 h1]
  · rintro rfl h0 h1
    exact tokenGate_of_ne h0 h1 s.gate

/-! ## The operation a byte selects (R49) -/

theorem byteWord_inj {m m' : Bool} {b b' : Byte} : byteWord m b = byteWord m' b' ↔ m = m' ∧ b = b' := by
  refine ⟨fun h => ⟨?_, ?_⟩, fun ⟨hm, hb⟩ => by rw [hm, hb]⟩
  · simpa using congrArg modeField h
  · simpa using congrArg byteField h

/-- The five rows of R49, on the mode bit and the byte. -/
theorem decodeByte_byteWord (cfg : Config) (m : Bool) (b : Byte) :
    decodeByte cfg (byteWord m b) =
      if m = false ∧ b = caret then .nOpen
      else if m = false then (if (lookup cfg b).isSome then .nKey b else .nDrop b)
      else if b = caret then .eClose
      else .eAppend b := by
  have hopen : (0x05E#9 : DecodeWord) = byteWord false caret := rfl
  have hclose : (0x15E#9 : DecodeWord) = byteWord true caret := rfl
  cases m <;> simp only [decodeByte, hopen, hclose, byteWord_inj, modeField_byteWord, byteField_byteWord] <;> simp

/-- The mode and whether the byte is `^` choose the row, and in `Normal` the Code Table. -/
theorem decodeByte_cases (cfg : Config) (m : Mode) (b : Byte) :
    (m = .normal ∧ b = caret ∧ decodeByte cfg (byteWord m.bit b) = .nOpen) ∨
      (m = .normal ∧ b ≠ caret ∧
        (decodeByte cfg (byteWord m.bit b) = .nKey b ∨ decodeByte cfg (byteWord m.bit b) = .nDrop b)) ∨
      (m = .escape ∧ b = caret ∧ decodeByte cfg (byteWord m.bit b) = .eClose) ∨
      (m = .escape ∧ b ≠ caret ∧ decodeByte cfg (byteWord m.bit b) = .eAppend b) := by
  rw [decodeByte_byteWord]
  by_cases hb : b = caret
  · cases m <;> simp [Mode.bit, hb]
  · cases m with
    | normal => cases hl : (lookup cfg b).isSome <;> simp [Mode.bit, hb]
    | escape => simp [Mode.bit, hb]

/-- An operation a byte selects changes the mode exactly when that byte is `^`. -/
theorem modeAfter_decodeByte_ne_iff (cfg : Config) (m : Mode) (b : Byte) :
    modeAfter (decodeByte cfg (byteWord m.bit b)) m ≠ m ↔ b = caret := by
  rcases decodeByte_cases cfg m b with ⟨rfl, hb, h⟩ | ⟨rfl, hb, h | h⟩ | ⟨rfl, hb, h⟩ | ⟨rfl, hb, h⟩ <;>
    rw [h] <;> simp [hb, modeAfter]

/-! ## The step (R28) -/

/-- The state after the byte `b` is taken and the operation it selects is done, `rest` being the bytes behind it. -/
def State.taken (s : State) (b : Byte) (rest : List Byte) : State :=
  ((s.afterGap.setInput rest).parsed (decodeByte s.cfg (byteWord s.mode.bit b))).carried
    ((s.afterGap.setInput rest).actionOf (decodeByte s.cfg (byteWord s.mode.bit b)))

section
variable (s : State) (b : Byte) (rest : List Byte)

@[simp] theorem State.taken_mode :
    (s.taken b rest).mode = modeAfter (decodeByte s.cfg (byteWord s.mode.bit b)) s.mode := by simp [State.taken]
theorem State.taken_gate :
    (s.taken b rest).gate = (s.afterGap.setInput rest).gateAfter (decodeByte s.cfg (byteWord s.mode.bit b)) := by
  simp [State.taken]
@[simp] theorem State.taken_bus : (s.taken b rest).bus = s.bus := by simp [State.taken]

end

/-- Everything a step without a restart can be: the block waits, takes a byte, or goes on with an action. -/
theorem step_cases_of_noReset {s t : State} (hr : s.resetReq = false) (h : step s = .next t) :
    (s.phase = .idle ∧ s.input = [] ∧ t = s) ∨
      (s.phase = .idle ∧ ∃ b rest, s.input = b :: rest ∧ t = s.taken b rest) ∨
      (s.phase ≠ .idle ∧ t = busyStep s) := by
  obtain ⟨-, ⟨hr', -⟩ | ⟨-, hwait⟩ | ⟨-, hp, b, rest, hi, htake⟩ | ⟨-, hbusy⟩⟩ := step_cases h
  · simp [hr] at hr'
  · exact .inl hwait
  · exact .inr (.inl ⟨hp, b, rest, hi, eq_of_exec htake⟩)
  · exact .inr (.inr hbusy)

/-- Outside `IDLE` a step writes only the lines, the phase, the timer, the trace and the draws. -/
theorem busyStep_frame (s : State) :
    busyStep s = { s with bus := (busyStep s).bus, phase := (busyStep s).phase, tmr := (busyStep s).tmr,
                          trace := (busyStep s).trace, draws := (busyStep s).draws } := by
  unfold busyStep stepTxHold stepPause waitFor
  split
  case h_5 | h_8 => split <;> rfl
  all_goals rfl

@[simp] theorem busyStep_cfg (s : State) : (busyStep s).cfg = s.cfg := by rw [busyStep_frame]
@[simp] theorem busyStep_mode (s : State) : (busyStep s).mode = s.mode := by rw [busyStep_frame]
@[simp] theorem busyStep_gate (s : State) : (busyStep s).gate = s.gate := by rw [busyStep_frame]
@[simp] theorem busyStep_input (s : State) : (busyStep s).input = s.input := by rw [busyStep_frame]
@[simp] theorem busyStep_resetReq (s : State) : (busyStep s).resetReq = s.resetReq := by rw [busyStep_frame]
@[simp] theorem busyStep_actions (s : State) : (busyStep s).actions = s.actions := by rw [busyStep_frame]

/-- Settles O27: a restart, an operation and a bus step all keep the configuration. -/
theorem configurationNeverChanges : Obligations.ConfigurationNeverChanges := by
  intro s t h
  obtain ⟨-, ⟨-, rfl⟩ | ⟨-, -, -, rfl⟩ | ⟨-, -, b, rest, -, htake⟩ | ⟨-, -, rfl⟩⟩ := step_cases h
  · exact restart_cfg s
  · rfl
  · rw [eq_of_exec htake]; simp
  · exact busyStep_cfg s

/-- Settles O28: outside `IDLE` a step writes none of these elements (`busyStep_frame`). -/
theorem busyStepsTakeNoInput : Obligations.BusyStepsTakeNoInput := by
  intro s t hr hp h
  obtain ⟨hidle, -⟩ | ⟨hidle, -⟩ | ⟨-, rfl⟩ := step_cases_of_noReset hr h
  · exact absurd hidle hp
  · exact absurd hidle hp
  · rw [busyStep_frame]
    exact ⟨rfl, rfl, rfl, rfl, rfl, rfl, rfl, rfl, hr⟩

/-- Settles O30: outside `IDLE` the mode stands still, and in `IDLE` the byte taken decides. -/
theorem modeChangesOnlyOnCaret : Obligations.ModeChangesOnlyOnCaret := by
  intro s t hr h
  obtain ⟨-, hi, rfl⟩ | ⟨hp, b, rest, hi, rfl⟩ | ⟨hp, rfl⟩ := step_cases_of_noReset hr h
  · simp [hi]
  · rw [State.taken_mode, modeAfter_decodeByte_ne_iff]
    simp [hp, hi]
  · simp [hp]

/-- A closing `^` selects a keyed operation only for that operation's own word, with two bytes stored. -/
theorem State.closingToken_eq {s : State} {i : Instr} {w : TokenWord} (h : s.closingToken = i) (hi : i ≠ .tInert)
    (hw : encode i = .token true w) : 2 ≤ s.tokIdx ∧ tokenWord (s.tok.read 0) (s.tok.read 1) = w := by
  rcases decodeToken_cases s.cfg s.tokenValid (tokenWord s.tokenBytes.1 s.tokenBytes.2) with ⟨hv, hk⟩ | hinert
  · have henc := (keyedToken_row hk).2
    rw [show decodeToken _ _ _ = i from h, hw] at henc
    exact ⟨of_decide_eq_true hv, (OpWord.token.inj henc).2.symm⟩
  · exact absurd (h.symm.trans hinert) hi

/-- Only the tokens E0 and E1 change the gate, each to the value it names. -/
theorem tokenGate_ne {i : Instr} {g : Gate} (h : tokenGate i g ≠ g) :
    (i = .tE0 ∧ tokenGate i g = .disabled) ∨ (i = .tE1 ∧ tokenGate i g = .enabled) := by
  by_cases h0 : i = .tE0
  · subst h0; exact .inl ⟨rfl, rfl⟩
  · by_cases h1 : i = .tE1
    · subst h1; exact .inr ⟨rfl, rfl⟩
    · exact absurd (tokenGate_of_ne h0 h1 g) h

/-- The gap before a byte and the taking of it leave the closing token. -/
theorem State.closingToken_taking (s : State) (rest : List Byte) :
    (s.afterGap.setInput rest).closingToken = s.closingToken := by
  simp [State.closingToken, State.tokenValid, State.tokenBytes]

/-- Settles O31: of the operations a byte selects only `E.CLOSE` writes the gate, and there only E0 and E1. -/
theorem gateChangesOnlyOnGateTokens : Obligations.GateChangesOnlyOnGateTokens := by
  intro s t hr h hg
  obtain ⟨-, -, rfl⟩ | ⟨hp, b, rest, hi, rfl⟩ | ⟨-, rfl⟩ := step_cases_of_noReset hr h
  · exact absurd rfl hg
  · rw [State.taken_gate] at hg ⊢
    rcases decodeByte_cases s.cfg s.mode b with ⟨-, -, hd⟩ | ⟨-, -, hd | hd⟩ | ⟨hm, rfl, hd⟩ | ⟨-, -, hd⟩
    case inr.inr.inl =>
      rw [hd, State.gateAfter, State.setInput_gate, State.afterGap_gate, State.closingToken_taking] at hg ⊢
      refine ⟨hp, by rw [hi]; rfl, hm, ?_⟩
      rcases tokenGate_ne hg with ⟨htok, hgate⟩ | ⟨htok, hgate⟩ <;>
        obtain ⟨hidx, hw⟩ := State.closingToken_eq htok (by decide) rfl
      · exact ⟨hidx, .inl ⟨hw, hgate⟩⟩
      · exact ⟨hidx, .inr ⟨hw, hgate⟩⟩
    all_goals
      rw [hd] at hg
      exact absurd s.afterGap_gate hg
  · exact absurd (busyStep_gate s) hg

/-- The waits change no line. -/
theorem sending_of_busyStep_bus_ne {s : State} (h : (busyStep s).bus ≠ s.bus) :
    s.phase.sending = true ∧ s.phase ≠ .txHold := by
  cases hp : s.phase
  case idle => simp [busyStep, hp] at h
  case txHold => simp [busyStep, hp, stepTxHold] at h
  case pause => simp [busyStep, hp, stepPause] at h
  all_goals exact ⟨rfl, by decide⟩

/-- Settles O32: no operation writes the lines, and outside `IDLE` the waits do not. -/
theorem linesChangeOnlyInATransmission : Obligations.LinesChangeOnlyInATransmission := by
  intro s t hr h hbus
  obtain ⟨-, -, rfl⟩ | ⟨-, b, rest, -, rfl⟩ | ⟨-, rfl⟩ := step_cases_of_noReset hr h
  · exact absurd rfl hbus
  · exact absurd (s.taken_bus b rest) hbus
  · exact sending_of_busyStep_bus_ne hbus

/-- Settles O26: in `IDLE` the step looks at the input first. -/
theorem waitsWithoutInput : Obligations.WaitsWithoutInput := by
  intro s hl hr hp hi
  rw [step_eq, if_neg (by simp [hl]), if_neg (by simp [hr]), if_pos hp, hi]

/-! ## The hold and the pause (R29, R107, R126) -/

section
variable {s : State} (hl : legal s.cfg = true) (hr : s.resetReq = false)
include hl hr

theorem step_txHold (hp : s.phase = .txHold) : step s = .next (waitFor s .txStrobeOff) := by
  rw [step_busy s hl hr hp (by decide), busyStep, hp, stepTxHold]

theorem step_pause (hp : s.phase = .pause) : step s = .next (waitFor s .idle) := by
  rw [step_busy s hl hr hp (by decide), busyStep, hp, stepPause]

end

/-- Settles O38: both phases are `waitFor`. -/
theorem holdAndPauseCountDown : Obligations.HoldAndPauseCountDown := by
  intro s hl hr
  refine ⟨fun hp htmr => ?_, fun hp htmr => ?_, fun hp htmr => ?_⟩
  · have hne : s.tmr ≠ 0 := Nat.ne_of_gt htmr
    rcases hp with hp | hp
    · rw [step_txHold hl hr hp, waitFor_pos _ hne]
    · rw [step_pause hl hr hp, waitFor_pos _ hne]
  · rw [step_txHold hl hr hp, waitFor_zero _ htmr]
  · rw [step_pause hl hr hp, waitFor_zero _ htmr]

/-! ## Every action ends (R28, R44) -/

theorem run_succ {s u : State} (h : step s = .next u) (k : Nat) : run (k + 1) s = run k u := by
  rw [run, h]

/-- How many steps of the model the present action still takes (log 3). -/
def stepsLeft (s : State) : Nat :=
  match s.phase with
  | .idle => 0
  | .pause => s.tmr + 1
  | .txData => s.cfg.strobeHold + 6
  | .txPar => s.cfg.strobeHold + 5
  | .txStrobeOn => s.cfg.strobeHold + 4
  | .txHold => s.tmr + 3
  | .txStrobeOff => 2
  | .txRelease => 1

theorem stepsLeft_le (s : State) : stepsLeft s ≤ s.tmr + s.cfg.strobeHold + 6 := by
  unfold stepsLeft
  split <;> omega

theorem stepsLeft_eq_zero_iff {s : State} : stepsLeft s = 0 ↔ s.phase = .idle := by
  cases hp : s.phase <;> simp [stepsLeft, hp]

/-- Each step outside `IDLE` is one step fewer to go. -/
theorem stepsLeft_busyStep {s : State} (h : s.phase ≠ .idle) : stepsLeft (busyStep s) + 1 = stepsLeft s := by
  cases hp : s.phase
  case idle => exact absurd hp h
  case txHold | pause =>
    by_cases htmr : s.tmr = 0
    · simp [busyStep, hp, stepTxHold, stepPause, waitFor_zero _ htmr, stepsLeft, htmr]
    · simp [busyStep, hp, stepTxHold, stepPause, waitFor_pos _ htmr, stepsLeft]
      omega
  all_goals simp [busyStep, hp, stepsLeft]

/-- The present action ends after `stepsLeft` steps, which take no byte and write neither the mode nor the gate. -/
theorem run_stepsLeft {s : State} (hl : legal s.cfg = true) (hr : s.resetReq = false) :
    ∃ t : State, run (stepsLeft s) s = .next t ∧ t.phase = .idle ∧ t.input = s.input ∧ t.actions = s.actions ∧
      t.mode = s.mode ∧ t.gate = s.gate := by
  induction hn : stepsLeft s generalizing s with
  | zero => exact ⟨s, rfl, stepsLeft_eq_zero_iff.mp hn, rfl, rfl, rfl, rfl⟩
  | succ n ih =>
    have hp : s.phase ≠ .idle := fun h => by simp [stepsLeft_eq_zero_iff.mpr h] at hn
    have hleft : stepsLeft (busyStep s) = n := by have := stepsLeft_busyStep hp; omega
    obtain ⟨t, hrun, hidle, hrest⟩ := ih (s := busyStep s) (by simpa using hl) (by simpa using hr) hleft
    refine ⟨t, ?_, hidle, by simpa using hrest⟩
    rw [run_succ (step_busy s hl hr rfl hp), hrun]

/-- Settles O41, with `stepsLeft` as the number of steps. -/
theorem everyActionEnds : Obligations.EveryActionEnds :=
  fun s hl hr => ⟨stepsLeft s, stepsLeft_le s, run_stepsLeft hl hr⟩

/-! ## Slots 2 and above (R24, R32) -/

theorem State.afterGap_setTok (s : State) (m : Memory) : (s.setTok m).afterGap = s.afterGap.setTok m := by
  unfold State.afterGap
  rw [State.setTok_actions]
  split <;> rfl

theorem busyStep_setTok (s : State) (m : Memory) : busyStep (s.setTok m) = (busyStep s).setTok m := by
  unfold busyStep stepTxHold stepPause waitFor
  rw [State.setTok_phase, State.setTok_tmr]
  split
  case h_5 | h_8 => split <;> rfl
  all_goals rfl

section
variable {s : State} {m : Memory} (h0 : m.read 0 = s.tok.read 0) (h1 : m.read 1 = s.tok.read 1)
include h0 h1

/-- The closing `^` reads slots 0 and 1 only. -/
theorem State.closingToken_setTok : (s.setTok m).closingToken = s.closingToken := by
  change decodeToken s.cfg s.tokenValid (tokenWord (m.read 0) (m.read 1)) = _
  rw [h0, h1]
  rfl

theorem State.actionOf_setTok (i : Instr) : (s.setTok m).actionOf i = s.actionOf i := by
  have htok : ∀ j, tokenAction (s.setTok m) j = tokenAction s j := fun j => by cases j <;> rfl
  cases i
  case eClose => exact (htok _).trans (by rw [State.closingToken_setTok h0 h1]; rfl)
  all_goals rfl

theorem State.parsed_setTok (i : Instr) : (s.setTok m).parsed i = (s.parsed i).setTok ((s.setTok m).tokAfter i) := by
  cases i
  case eClose => simp only [State.parsed, State.gateAfter, State.closingToken_setTok h0 h1]; rfl
  all_goals rfl

/-- An operation writes the same into two buffers that agree in slots 0 and 1. -/
theorem exec_setTok (i : Instr) :
    exec i (s.setTok m) = .next (((s.parsed i).carried (s.actionOf i)).setTok ((s.setTok m).tokAfter i)) := by
  rw [exec_eq, State.parsed_setTok h0 h1, State.actionOf_setTok h0 h1, State.carried_setTok]

end

/-- A slot that reads the same in two canonical buffers does so after every operation. -/
theorem State.tokAfter_setTok_read {s : State} {m : Memory} (hs : s.tok.wf = true) (hm : m.wf = true) {a : Nat}
    (ha : m.read a = s.tok.read a) (i : Instr) : ((s.setTok m).tokAfter i).read a = (s.tokAfter i).read a := by
  cases i
  case nOpen | eClose => rfl
  case eAppend b =>
    change (m.write s.appendSlot b).read a = (s.tok.write s.appendSlot b).read a
    rw [Memory.read_write _ _ hm, Memory.read_write _ _ hs, ha]
  all_goals exact ha

/-- Settles O47: every case of the step goes the same way with the other buffer. -/
theorem laterSlotsAreNeverRead : Obligations.LaterSlotsAreNeverRead := by
  intro s t m hs hm h0 h1 h
  change ∃ u, step (s.setTok m) = .next u ∧ u.setTok t.tok = t ∧ _
  obtain ⟨hl, ⟨hr, rfl⟩ | ⟨hr, hp, hi, rfl⟩ | ⟨hr, hp, b, rest, hi, htake⟩ | ⟨hr, hp, rfl⟩⟩ := step_cases h
  · refine ⟨restart s, ?_, rfl, rfl, rfl⟩
    rw [step_eq, if_neg (by simp [hl]), if_pos (by simpa using hr)]
    rfl
  · exact ⟨t.setTok m, waitsWithoutInput (t.setTok m) hl hr hp hi, rfl, h0, h1⟩
  · obtain rfl := eq_of_exec htake
    have hstep := step_take (s.setTok m) hl hr hp hi
    rw [State.afterGap_setTok] at hstep
    have hexec := exec_setTok (s := s.afterGap.setInput rest) (m := m) (by simpa using h0) (by simpa using h1)
    have hread {a : Nat} (ha : m.read a = s.tok.read a) := State.tokAfter_setTok_read (s := s.afterGap.setInput rest)
      (by simpa using hs) hm (a := a) (by simpa using ha)
    refine ⟨_, hstep.trans (hexec _), rfl, ?_, ?_⟩
    · simpa using hread h0 _
    · simpa using hread h1 _
  · refine ⟨(busyStep s).setTok m, ?_, rfl, ?_, ?_⟩
    · rw [step_busy (s.setTok m) hl hr rfl hp, busyStep_setTok]
    · rw [busyStep_frame]; exact h0
    · rw [busyStep_frame]; exact h1

/-! ## An open sequence swallows text (R70, R139) -/

/-- The parser's buffer and the input replaced: the elements that a byte in an open sequence writes. -/
def State.withBuffer (m : Memory) (n : Nat) (l : List Byte) (s : State) : State :=
  { s with tok := m, tokIdx := n, input := l }

theorem State.takeNone_eq (s : State) :
    s.takeNone = { s.afterGap with actions := s.actions ++ [.none], phase := .idle } := by
  rw [State.takeNone, State.afterNone, State.afterGap_actions]

/-- A gap and a `None` neither read nor write the buffer and the input. -/
theorem State.takeNone_withBuffer (m : Memory) (n : Nat) (l : List Byte) (s : State) :
    (s.withBuffer m n l).takeNone = s.takeNone.withBuffer m n l := by
  have hgap : (s.withBuffer m n l).afterGap = s.afterGap.withBuffer m n l := by
    unfold State.afterGap
    rw [show (s.withBuffer m n l).actions = s.actions from rfl]
    split <;> rfl
  rw [State.takeNone, hgap]
  rfl

theorem State.iterate_takeNone_withBuffer (m : Memory) (n : Nat) (l : List Byte) (k : Nat) (s : State) :
    State.takeNone^[k] (s.withBuffer m n l) = (State.takeNone^[k] s).withBuffer m n l :=
  Function.Commute.iterate_left (State.takeNone_withBuffer m n l) k s

/-- What `k` bytes with the action `None` record and leave, their effect on the parser's state apart. -/
theorem State.iterate_takeNone_frame (s : State) (k : Nat) :
    (State.takeNone^[k] s).actions = s.actions ++ List.replicate k Action.none ∧
      (State.takeNone^[k] s).mode = s.mode ∧ (State.takeNone^[k] s).gate = s.gate ∧
      (State.takeNone^[k] s).bus = s.bus := by
  induction k with
  | zero => simp
  | succ k ih =>
    obtain ⟨hact, hmode, hgate, hbus⟩ := ih
    rw [Function.iterate_succ_apply', State.takeNone_eq]
    simp [hact, hmode, hgate, hbus, List.replicate_succ']

/-- The buffer after appending depends on the capacity and the buffer only. -/
theorem State.foldl_append_congr {s u : State} (hcfg : u.cfg = s.cfg) (htok : u.tok = s.tok) (hidx : u.tokIdx = s.tokIdx)
    (xs : List Byte) :
    (xs.foldl State.append u).tok = (xs.foldl State.append s).tok ∧
      (xs.foldl State.append u).tokIdx = (xs.foldl State.append s).tokIdx := by
  induction xs generalizing s u with
  | nil => exact ⟨htok, hidx⟩
  | cons x xs ih => exact ih hcfg (by simp [State.appendSlot, hcfg, htok, hidx]) (by simp [State.appendIdx, hcfg, hidx])

/-- In an open sequence a byte other than `^` is appended, with the action `None`. -/
theorem step_append {s : State} {x : Byte} {rest : List Byte} (hl : legal s.cfg = true) (hr : s.resetReq = false)
    (hp : s.phase = .idle) (hm : s.mode = .escape) (hx : x ≠ caret) (hi : s.input = x :: rest) :
    step s = .next (s.takeNone.withBuffer (s.append x).tok (s.append x).tokIdx rest) := by
  have hdec : decodeByte s.cfg (byteWord s.mode.bit x) = .eAppend x := by
    rw [decodeByte_byteWord, hm]
    simp [Mode.bit, hx]
  rw [step_take s hl hr hp hi, hdec, exec_eq]
  have htok : (s.afterGap.setInput rest).tokAfter (.eAppend x) = (s.append x).tok := by
    simp [State.tokAfter, State.appendSlot]
  have hidx : (s.afterGap.setInput rest).tokIdxAfter (.eAppend x) = (s.append x).tokIdx := by
    simp [State.tokIdxAfter, State.appendIdx]
  rw [State.parsed, htok, hidx]
  rfl

/-- The text of an open sequence, byte by byte. -/
theorem run_append {s : State} {xs rest : List Byte} (hl : legal s.cfg = true) (hr : s.resetReq = false)
    (hp : s.phase = .idle) (hm : s.mode = .escape) (hxs : ∀ x ∈ xs, x ≠ caret) (hi : s.input = xs ++ rest) :
    run xs.length s =
      .next ((State.takeNone^[xs.length] s).withBuffer (xs.foldl State.append s).tok (xs.foldl State.append s).tokIdx
        rest) := by
  induction xs generalizing s with
  | nil => rw [State.withBuffer, ← List.nil_append rest, ← hi]; rfl
  | cons x xs ih =>
    have hstep := step_append (rest := xs ++ rest) hl hr hp hm (hxs x (by simp)) hi
    obtain ⟨htok, hidx⟩ := State.foldl_append_congr (s := s.append x)
      (u := s.takeNone.withBuffer (s.append x).tok (s.append x).tokIdx (xs ++ rest))
      (by simp [State.withBuffer, State.takeNone_eq]) rfl rfl xs
    rw [List.length_cons, run_succ hstep, ih _ _ rfl _ (fun y hy => hxs y (by simp [hy])) rfl, htok, hidx,
      State.iterate_takeNone_withBuffer, Function.iterate_succ_apply, List.foldl_cons]
    · rfl
    all_goals simp [State.withBuffer, State.takeNone_eq, hl, hr, hm]

/-- Settles O43: the run (`run_append`), and what the bytes' `None`s leave. -/
theorem openSequenceSwallowsText : Obligations.OpenSequenceSwallowsText := by
  intro s xs rest hl hr hp hm hxs hi
  obtain ⟨hact, hmode, hgate, hbus⟩ := s.iterate_takeNone_frame xs.length
  exact ⟨run_append hl hr hp hm hxs hi, hact, hmode.trans hm, hgate, hbus⟩

/-! ## The bus images due in each phase (R111, R112) -/

theorem assertZeroBits_idle (code : Byte) : assertZeroBits code (Vector.replicate 8 .idle) = zeroLines code := by
  ext i hi
  cases hb : code[i] <;> simp [assertZeroBits, zeroLines, hb]

/-- The asserted data lines are the 0 bits of the code. -/
theorem assertedLines_zeroLines (c : Byte) :
    ((zeroLines c).toList.filter fun l => l == .asserted).length + popcount c = 8 := by
  have hmap : (zeroLines c).toList = (List.range 8).map fun i => if c.getLsbD i then .idle else .asserted := by
    simp [zeroLines, Vector.toList_ofFn, List.range_succ]
  have hzero : ∀ i, ((if c.getLsbD i then Line.idle else .asserted) == .asserted) = !c.getLsbD i := fun i => by
    cases c.getLsbD i <;> rfl
  have hsplit := List.length_eq_length_filter_add (l := List.range 8) fun i => c.getLsbD i
  rw [List.length_range] at hsplit
  rw [hmap, List.filter_map, List.length_map, popcount]
  simp only [Function.comp_def, hzero]
  omega

/-- R112: with its own parity bit, a code asserts an odd number of lines under the strobe. -/
theorem dueBus_targetOk (c : Byte) (q : Phase) : (dueBus c (parity c) q).targetOk = true := by
  cases q
  case txHold | txStrobeOff =>
    have hlines := assertedLines_zeroLines c
    simp only [dueBus, Bus.targetOk, Bus.assertedLines, parityLine, parity]
    rcases Nat.mod_two_eq_zero_or_one (popcount c) with h | h <;> simp [h] <;> omega
  all_goals rfl

/-! ## Lawful actions (R52, R61) -/

theorem scanCode_ne_zero {cfg : Config} (hl : legal cfg = true) {c : Byte} (hc : c ∈ scanCodes cfg) : c ≠ 0x00#8 := by
  simp only [legal, legalCodes, Bool.and_eq_true, List.all_eq_true, bne_iff_ne] at hl
  obtain ⟨⟨-, hcodes⟩, -⟩ := hl
  exact hcodes c hc

theorem lookup_ne_zero {cfg : Config} {b c : Byte} (h : lookup cfg b = some c) : c ≠ 0x00#8 := by
  unfold lookup at h
  split at h
  · cases h
  · cases h; assumption

theorem gatedEmit_ok (s : State) {c : Byte} (hc : c ≠ 0x00#8) : (gatedEmit s c).ok = true := by
  rcases gatedEmit_cases s c with ⟨h, -⟩ | ⟨h, -⟩ <;> simp [h, Action.ok, hc]

theorem tokenAction_ok {s : State} (hl : legal s.cfg = true) (i : Instr) : (tokenAction s i).ok = true := by
  cases i
  case tLE | tRI | tUP | tDO | tSU | tSD | tHO | tEX | tAT | tCA | tCP | tCM | tCS =>
    exact gatedEmit_ok s (scanCode_ne_zero hl (by simp [scanCodes]))
  all_goals rfl

/-- Under a legal configuration every operation's action is one the rules can produce. -/
theorem State.actionOf_ok {s : State} (hl : legal s.cfg = true) (i : Instr) : (s.actionOf i).ok = true := by
  cases i
  case nKey b =>
    simp only [State.actionOf]
    cases hc : lookup s.cfg b with
    | none => rfl
    | some c => exact gatedEmit_ok s (lookup_ne_zero hc)
  all_goals
    simp only [State.actionOf]
    exact tokenAction_ok hl _

/-! ## The invariant -/

theorem three_le_tokenCap {cfg : Config} (hl : legal cfg = true) : 3 ≤ cfg.tokenCap := by
  simp only [legal, legalSizes, Bool.and_eq_true, decide_eq_true_eq] at hl
  omega

section
variable {s : State} (h : Inv s)
include h

/-- The image that stands is one the target may see. -/
theorem Inv.bus_targetOk : s.bus.targetOk = true := by
  rw [h.lines]
  cases hp : s.phase
  case idle | pause => rfl
  all_goals
    rw [(h.latch (by rw [hp]; rfl)).1]
    exact dueBus_targetOk _ _

theorem Inv.trace_append (g : Hold) : (s.trace ++ [(s.bus, g)]).all (fun e => e.1.targetOk) = true := by
  simp [List.all_append, h.traceOk, h.bus_targetOk]

theorem Inv.setInput (l : List Byte) : Inv (s.setInput l) := { h with }

theorem Inv.afterGap : Inv s.afterGap := by
  rcases afterGap_cases s with hgap | hgap
  · rwa [hgap]
  · rw [hgap]
    refine { h with traceOk := ?_ }
    have hold : (s.trace.map Prod.fst).all Bus.targetOk = true := by simpa [List.all_map] using h.traceOk
    have hnew : ((lengthen s.trace s.bus (Config.freeGap s.draws)).map Prod.fst).all Bus.targetOk = true := by
      rcases lengthen_images s.trace s.bus (Config.freeGap s.draws) with himg | himg <;> rw [himg]
      · exact hold
      · rw [List.all_append, hold]; simpa using h.bus_targetOk
    simpa [List.all_map] using hnew

/-- What an operation may write to the parser's state. -/
theorem Inv.write (hp : s.phase = .idle) {m : Mode} (g : Gate) {tok : Memory} {n : Nat} (hwf : tok.wf = true)
    (hwithin : tok.within s.cfg.tokenCap = true) (hn : n ≤ s.cfg.tokenCap) (hcaret : tok.all (fun c => c.2 != caret) = true)
    (hclear : m = .normal → tok = [] ∧ n = 0) : Inv { s with mode := m, gate := g, tok := tok, tokIdx := n } :=
  { h with
    tokWf := hwf
    tokWithin := hwithin
    idxLe := hn
    noCaret := hcaret
    clearInNormal := hclear
    normalWhenBusy := fun hbusy => absurd hp hbusy }

/-- An append stays inside the `TOKEN_CAP` slots, of which there are at least three. -/
theorem Inv.appendSlot_lt : s.appendSlot < s.cfg.tokenCap := by
  have hcap := three_le_tokenCap h.legal
  unfold State.appendSlot
  split <;> omega

theorem Inv.parsed (hp : s.phase = .idle) {i : Instr} (happend : ∀ b, i = .eAppend b → s.mode = .escape ∧ b ≠ caret) :
    Inv (s.parsed i) := by
  cases i
  case nOpen | eClose => exact h.write hp _ rfl rfl (Nat.zero_le _) rfl fun _ => ⟨rfl, rfl⟩
  case eAppend b =>
    obtain ⟨hm, hb⟩ := happend b rfl
    refine h.write hp _ (Memory.write_wf _ b h.tokWf) (Memory.write_within b h.appendSlot_lt h.tokWithin) ?_ ?_ ?_
    · have hle := h.idxLe
      change s.appendIdx ≤ s.cfg.tokenCap
      unfold State.appendIdx
      split <;> omega
    · have hold := h.noCaret
      simp only [List.all_eq_true] at hold ⊢
      intro c hc
      rcases Memory.mem_write hc with rfl | hc
      · simpa using hb
      · exact hold c hc
    · intro hnormal
      exact absurd (hm.symm.trans hnormal) nofun
  all_goals exact h.write hp _ h.tokWf h.tokWithin h.idxLe h.noCaret h.clearInNormal

theorem Inv.carried (hp : s.phase = .idle) {a : Action} (ha : a.ok = true) (hm : a ≠ .none → s.mode = .normal) :
    Inv (s.carried a) := by
  have hbus : s.bus = Bus.released := by rw [h.lines, hp]; rfl
  have htmr : s.tmr ≤ 0 := by simpa [hp, timerBound] using h.timer
  have hact : (s.actions ++ [a]).all Action.ok = true := by simp [List.all_append, h.actionsOk, ha]
  cases a with
  | none =>
    exact { h with
      normalWhenBusy := fun hbusy => absurd rfl hbusy
      lines := hbus
      latch := nofun
      timer := htmr
      actionsOk := hact }
  | emit c p =>
    obtain ⟨hpar, hc⟩ : p = parity c ∧ c ≠ 0x00#8 := by simpa [Action.ok] using ha
    exact { h with
      normalWhenBusy := fun _ => hm nofun
      lines := hbus
      latch := fun _ => ⟨hpar, hc⟩
      timer := htmr
      actionsOk := hact }
  | pause ms =>
    have hms : ms ≤ 900 := (of_decide_eq_true ha).2.1
    exact { h with
      normalWhenBusy := fun _ => hm nofun
      lines := hbus
      latch := nofun
      timer := Nat.mul_le_mul_right _ hms
      actionsOk := hact
      traceOk := h.trace_append _ }

/-- A byte is taken: an append happens only in an open sequence, and an action is carried out only in `Normal`. -/
theorem Inv.taken (hp : s.phase = .idle) (b : Byte) (rest : List Byte) : Inv (s.taken b rest) := by
  have hu : Inv (s.afterGap.setInput rest) := h.afterGap.setInput rest
  have hpu : (s.afterGap.setInput rest).phase = .idle := by simpa using hp
  refine Inv.carried (hu.parsed hpu ?_) hpu (State.actionOf_ok hu.legal _) ?_
  · intro b' hb'
    rcases decodeByte_cases s.cfg s.mode b with ⟨-, -, hd⟩ | ⟨-, -, hd | hd⟩ | ⟨-, -, hd⟩ | ⟨hm, hb, hd⟩
    case inr.inr.inr =>
      obtain rfl := Instr.eAppend.inj (hd.symm.trans hb')
      exact ⟨by simpa using hm, hb⟩
    all_goals exact absurd (hd.symm.trans hb') nofun
  · intro ha
    rw [State.parsed_mode, State.setInput_mode, State.afterGap_mode]
    rcases decodeByte_cases s.cfg s.mode b with ⟨-, -, hd⟩ | ⟨hm, -, hd | hd⟩ | ⟨-, -, hd⟩ | ⟨-, -, hd⟩ <;> rw [hd] at ha ⊢
    case inr.inl.inl => exact hm
    case inr.inr.inl => rfl
    all_goals exact absurd rfl ha

/-- A bus step: the image due in the next phase stands and is logged. -/
theorem Inv.image (hs : s.phase.sending = true) {q : Phase} {b : Bus} (hb : b = dueBus s.txCode s.txPar q) {n : Nat}
    (hn : n ≤ timerBound s.cfg q) (g : Hold) (d : Nat) :
    Inv { s with bus := b, phase := q, tmr := n, trace := s.trace ++ [(b, g)], draws := d } :=
  { h with
    normalWhenBusy := fun _ => h.normalWhenBusy fun hp => by simp [hp, Phase.sending] at hs
    lines := hb
    latch := fun _ => h.latch hs
    timer := hn
    traceOk := by
      have hok : b.targetOk = true := by rw [hb, (h.latch hs).1]; exact dueBus_targetOk _ _
      simp [List.all_append, h.traceOk, hok] }

/-- A wait: the image stands, and the phase it leads to is due the same. -/
theorem Inv.wait (hp : s.phase ≠ .idle) {q : Phase} (hq : dueBus s.txCode s.txPar s.phase = dueBus s.txCode s.txPar q)
    (hs : q.sending = true → s.phase.sending = true) : Inv (waitFor s q) := by
  by_cases htmr : s.tmr = 0
  · rw [waitFor_zero q htmr]
    exact { h with
      normalWhenBusy := fun _ => h.normalWhenBusy hp
      lines := h.lines.trans hq
      latch := fun hsend => h.latch (hs hsend)
      timer := by rw [htmr]; exact Nat.zero_le _ }
  · rw [waitFor_pos q htmr]
    exact { h with timer := (Nat.sub_le _ _).trans h.timer }

theorem Inv.busyStep (hne : s.phase ≠ .idle) : Inv (busyStep s) := by
  have hlines := h.lines
  have htimer := h.timer
  cases hp : s.phase <;> simp only [hp, timerBound, dueBus] at hlines htimer <;> simp only [Machine.busyStep, hp]
  case idle => exact absurd hp hne
  case txData =>
    exact h.image (by rw [hp]; rfl) (by simp [hlines, Bus.released, assertZeroBits_idle, dueBus]) htimer _ _
  case txPar =>
    refine h.image (by rw [hp]; rfl) ?_ htimer _ _
    cases s.txPar <;> simp [hlines, dueBus, parityLine]
  case txStrobeOn => exact h.image (by rw [hp]; rfl) (by simp [hlines, dueBus]) (Nat.le_refl _) _ _
  case txHold => exact h.wait hne (by rw [hp]; rfl) fun _ => by rw [hp]; rfl
  case txStrobeOff => exact h.image (by rw [hp]; rfl) (by simp [hlines, dueBus]) htimer _ _
  case txRelease => exact h.image (by rw [hp]; rfl) (by simp [hlines, dueBus, Bus.released]) htimer _ _
  case pause => exact h.wait hne (by rw [hp]; rfl) nofun

end

/-- The reset state meets the invariant, under every legal configuration. -/
theorem inv_resetWith {cfg : Config} (hl : legal cfg = true) : Inv (State.resetWith cfg) where
  legal := hl
  tokWf := rfl
  tokWithin := rfl
  idxLe := Nat.zero_le _
  noCaret := rfl
  clearInNormal := fun _ => ⟨rfl, rfl⟩
  normalWhenBusy := fun _ => rfl
  lines := rfl
  latch := nofun
  timer := Nat.le_refl _
  actionsOk := rfl
  traceOk := rfl

theorem inv_restart {s : State} (hl : legal s.cfg = true) : Inv (restart s) := { inv_resetWith hl with }

/-- Settles O49: each case of the step keeps the invariant. -/
theorem everyStepKeepsTheInvariant : Obligations.EveryStepKeepsTheInvariant := by
  intro s t hinv h
  cases hr : s.resetReq with
  | true =>
    obtain ⟨hl, ⟨-, rfl⟩ | ⟨hr', -⟩ | ⟨hr', -⟩ | ⟨hr', -⟩⟩ := step_cases h
    · exact inv_restart hl
    all_goals simp [hr] at hr'
  | false =>
    obtain ⟨-, -, rfl⟩ | ⟨hp, b, rest, -, rfl⟩ | ⟨hp, rfl⟩ := step_cases_of_noReset hr h
    · exact hinv
    · exact hinv.taken hp b rest
    · exact hinv.busyStep hp

end Sys2Proof.Machine
end

section
/-! PROOFS. The statements of spec/20_memory.md: what the Code Table's entries look up to, that a byte has exactly one action
and that action is lawful, and that a pause runs its whole length. -/

namespace Sys2Proof.Machine

/-! ## Lookup under a legal Code Table (R36, R38, R58, R59) -/

theorem lookup_eq_none_iff {cfg : Config} {b : Byte} : lookup cfg b = none ↔ codeEntry cfg b = 0x00#8 := by
  simp [lookup]

theorem lookup_eq_some_iff {cfg : Config} {b c : Byte} : lookup cfg b = some c ↔ codeEntry cfg b = c ∧ c ≠ 0x00#8 := by
  unfold lookup
  split
  · rename_i h
    simp only [h, reduceCtorEq, false_iff]
    exact fun ⟨hc, hne⟩ => hne hc.symm
  · rename_i h
    rw [Option.some_inj]
    exact ⟨fun hc => ⟨hc, hc ▸ h⟩, And.left⟩

/-- A lookup reads nothing but the byte's own entry. -/
theorem lookup_congr {cfg : Config} {b b' : Byte} (h : codeEntry cfg b = codeEntry cfg b') :
    lookup cfg b = lookup cfg b' := by
  rw [lookup, lookup, h]

/-- R59 (a) to (e), entry by entry. -/
theorem codeEntry_of_legal {cfg : Config} (hl : legal cfg = true) :
    codeEntry cfg caret = 0x00#8 ∧
      (∀ k < 26, codeEntry cfg (BitVec.ofNat 8 (0x61 + k)) = codeEntry cfg (BitVec.ofNat 8 (0x41 + k))) ∧
      codeEntry cfg 0x41#8 ≠ 0x00#8 ∧ codeEntry cfg 0x0D#8 = cfg.scExecute ∧ codeEntry cfg 0x0A#8 = cfg.scExecute := by
  obtain ⟨⟨htable, -⟩, -⟩ : (legalTable cfg = true ∧ legalCodes cfg = true) ∧ legalSizes cfg = true := by
    simpa [legal] using hl
  rw [← Bool.not_eq_false, legalTable_eq_false_iff] at htable
  push Not at htable
  obtain ⟨-, hentries⟩ := htable
  exact hentries

/-- Settles O7, from the entries R59 names; Execute's code is not the sentinel (R8). -/
theorem legalTableLookups : Obligations.LegalTableLookups := by
  intro cfg hl
  obtain ⟨hcaret, hletters, hA, hCR, hLF⟩ := codeEntry_of_legal hl
  have hexec : cfg.scExecute ≠ 0x00#8 := scanCode_ne_zero hl (by simp [scanCodes])
  refine ⟨lookup_eq_none_iff.mpr hcaret, fun k hk => lookup_congr (hletters k hk), ?_,
    lookup_eq_some_iff.mpr ⟨hCR, hexec⟩, lookup_eq_some_iff.mpr ⟨hLF, hexec⟩, fun b c hc => ?_⟩
  · rw [lookup_eq_some_iff.mpr ⟨rfl, hA⟩, Option.isSome_some]
  · obtain ⟨hentry, hne⟩ := lookup_eq_some_iff.mp hc
    exact ⟨hne, congrArg parity hentry⟩

/-! ## One action per byte (R44, R72) -/

section
variable (s : State) (a : Action) (b : Byte) (rest : List Byte)

@[simp] theorem State.carried_input : (s.carried a).input = s.input := by cases a <;> rfl
@[simp] theorem State.carried_actions : (s.carried a).actions = s.actions ++ [a] := by cases a <;> rfl

/-- Of the actions only a pause adds an image as it is carried out (R126). -/
theorem State.carried_trace : ∃ l : List (Bus × Hold), (s.carried a).trace = s.trace ++ l ∧ l.length ≤ 1 := by
  cases a with
  | none | emit => exact ⟨[], (List.append_nil _).symm, Nat.zero_le _⟩
  | pause ms => exact ⟨[(s.bus, .pause ms)], rfl, Nat.le_refl _⟩

@[simp] theorem State.taken_input : (s.taken b rest).input = rest := by
  rw [State.taken, State.carried_input]; rfl

/-- The byte's one action is that of the operation it selects. -/
theorem State.taken_actions :
    (s.taken b rest).actions =
      s.actions ++ [(s.afterGap.setInput rest).actionOf (decodeByte s.cfg (byteWord s.mode.bit b))] := by
  rw [State.taken, State.carried_actions]
  exact congrArg (· ++ _) s.afterGap_actions

/-- The gap before the byte apart, taking it adds at most one image. -/
theorem State.taken_trace :
    ∃ l : List (Bus × Hold), (s.taken b rest).trace = s.afterGap.trace ++ l ∧ l.length ≤ 1 :=
  State.carried_trace _ _

/-- The gap before a byte changes no image and adds at most the one that stands. -/
theorem State.afterGap_images :
    s.afterGap.trace.map Prod.fst = s.trace.map Prod.fst ∨
      s.afterGap.trace.map Prod.fst = s.trace.map Prod.fst ++ [s.bus] := by
  rcases afterGap_cases s with h | h <;> rw [h]
  · exact .inl rfl
  · exact lengthen_images _ _ _

end

/-- A bus step adds its image; a wait adds none (R107, R111). -/
theorem busyStep_trace (s : State) :
    ∃ l : List (Bus × Hold), (busyStep s).trace = s.trace ++ l ∧ l.length ≤ 1 := by
  cases hp : s.phase <;> simp only [busyStep, hp]
  case idle => exact ⟨[], (List.append_nil _).symm, Nat.zero_le _⟩
  case txHold | pause => exact ⟨[], by simp [stepTxHold, stepPause], Nat.zero_le _⟩
  all_goals exact ⟨[_], rfl, Nat.le_refl _⟩

/-- Settles O29: waiting and the busy steps leave the input and the actions; taking a byte adds its action. -/
theorem oneActionPerByte : Obligations.OneActionPerByte := by
  intro s t hr h
  obtain ⟨-, -, rfl⟩ | ⟨hp, b, rest, hi, rfl⟩ | ⟨-, rfl⟩ := step_cases_of_noReset hr h
  · exact ⟨.inl ⟨rfl, rfl⟩, t, [], .inl rfl, (List.append_nil _).symm, Nat.zero_le _, .inl rfl⟩
  · obtain ⟨l, htrace, hlen⟩ := s.taken_trace b rest
    refine ⟨.inr ⟨b, _, by rw [State.taken_input, hi], hp, s.taken_actions b rest⟩, ?_⟩
    exact ⟨s.afterGap, l, .inr ⟨hp, rfl⟩, htrace, hlen, s.afterGap_images⟩
  · obtain ⟨l, htrace, hlen⟩ := busyStep_trace s
    exact ⟨.inl ⟨busyStep_input s, busyStep_actions s⟩, s, l, .inl rfl, htrace, hlen, .inl rfl⟩

/-! ## Every action is lawful (R38, R52, R61) -/

@[simp] theorem restart_actions (s : State) : (restart s).actions = [] := rfl

/-- Settles O50: only taking a byte adds an action, its operation's (`State.actionOf_ok`). -/
theorem everyActionIsLawful : Obligations.EveryActionIsLawful := by
  intro s t a h ha
  obtain ⟨hl, ⟨-, rfl⟩ | ⟨-, -, -, rfl⟩ | ⟨-, -, b, rest, -, htake⟩ | ⟨-, -, rfl⟩⟩ := step_cases h
  · simp at ha
  · simp at ha
  · obtain rfl : t = s.taken b rest := eq_of_exec htake
    rw [State.taken_actions, List.append_cancel_left_eq, List.singleton_inj] at ha
    rw [← ha]
    exact State.actionOf_ok (by simpa using hl) _
  · simp at ha

/-! ## A pause runs its whole length (R44, R126) -/

theorem run_add {s u : State} {m : Nat} (h : run m s = .next u) (n : Nat) : run (m + n) s = run n u := by
  induction m generalizing s with
  | zero => cases h; rw [Nat.zero_add]
  | succ m ih =>
    cases hs : step s with
    | next t =>
      rw [run_succ hs] at h
      rw [Nat.succ_add, run_succ hs, ih h]
    | fault | refused => simp [run, hs] at h

/-- While its timer lasts, each step takes one tick off it and changes nothing else. -/
theorem run_pause {s : State} (hl : legal s.cfg = true) (hr : s.resetReq = false) (hp : s.phase = .pause) {k : Nat}
    (hk : k ≤ s.tmr) : run k s = .next { s with tmr := s.tmr - k } := by
  induction k generalizing s with
  | zero => rfl
  | succ k ih =>
    have htick : step s = .next { s with tmr := s.tmr - 1 } := by
      rw [step_pause hl hr hp, waitFor_pos _ (by omega)]
    rw [run_succ htick, ih (s := { s with tmr := s.tmr - 1 }) hl hr hp (Nat.le_sub_one_of_lt hk)]
    simp only [Nat.sub_sub, Nat.add_comm]

/-- Settles O40: the timer runs down to 0 (`run_pause`), and the step that sees it at 0 goes to `IDLE`. -/
theorem pauseRunsToItsEnd : Obligations.PauseRunsToItsEnd := by
  intro s hl hr hp
  refine ⟨?_, fun k hk => run_pause hl hr hp hk⟩
  have hdown : run s.tmr s = .next { s with tmr := 0 } := by
    rw [run_pause hl hr hp (Nat.le_refl _), Nat.sub_self]
  obtain ⟨-, -, hend⟩ := holdAndPauseCountDown { s with tmr := 0 } hl hr
  rw [run_add hdown, run_succ (hend hp rfl), run]

end Sys2Proof.Machine
end

section
/-! PROOFS. The statements of spec/30_encoding.md: the decoder and the encoder agree on both formats, every operation a word
selects completes, and a closing `^` does the operation its first two bytes select. -/

namespace Sys2Proof

/-! ## The decoder inverts the encoder (R49, R51, R53) -/

/-- A well-formed operation meets R49's condition on its operand and is recognized. -/
theorem Instr.wellFormed_iff {cfg : Config} {i : Instr} :
    i.wellFormed cfg = true ↔ i.operandOk cfg = true ∧ i.recognized cfg = true := by
  rw [Instr.wellFormed, Bool.and_eq_true]

/-- An operation encoded as a valid token word has that word's row in the dictionary. -/
theorem keyedToken_of_encode {i : Instr} {t : TokenWord} (h : encode i = .token true t) : keyedToken t = some i := by
  cases i
  case nOpen | nKey | nDrop | eClose | eAppend | tInert => cases h
  all_goals cases h; rfl

/-- A valid token word selects its row's operation, where that is recognized. -/
theorem decodeToken_of_keyed {cfg : Config} {t : TokenWord} {i : Instr} (h : keyedToken t = some i)
    (hr : i.recognized cfg = true) : decodeToken cfg true t = i := by
  simp [decodeToken, h, hr]

theorem decodeToken_of_not_keyed {t : TokenWord} (h : keyedToken t = none) (cfg : Config) (v : Bool) :
    decodeToken cfg v t = .tInert := by
  simp [decodeToken, h]

@[simp] theorem decodeToken_false (cfg : Config) (t : TokenWord) : decodeToken cfg false t = .tInert := rfl

theorem decode_encode {cfg : Config} {i : Instr} (h : i.wellFormed cfg = true) : decode cfg (encode i) = i := by
  obtain ⟨hop, hrec⟩ := Instr.wellFormed_iff.mp h
  cases i
  case nOpen | eClose | tInert => rfl
  case nKey b =>
    obtain ⟨hb, hmapped⟩ : b ≠ caret ∧ (Machine.lookup cfg b).isSome = true := by simpa [Instr.operandOk] using hop
    simp [decode, encode, Machine.decodeByte_byteWord, hb, hmapped]
  case nDrop b =>
    obtain ⟨hb, hunmapped⟩ : b ≠ caret ∧ Machine.lookup cfg b = none := by simpa [Instr.operandOk] using hop
    simp [decode, encode, Machine.decodeByte_byteWord, hb, hunmapped]
  case eAppend b =>
    have hb : b ≠ caret := by simpa [Instr.operandOk] using hop
    simp [decode, encode, Machine.decodeByte_byteWord, hb]
  all_goals exact decodeToken_of_keyed (keyedToken_of_encode rfl) hrec

/-- Settles O1: the rows of R49 by mode bit and byte, the rows of R51 by their keys. -/
theorem decodeEncodeRoundTrip : Obligations.DecodeEncodeRoundTrip := fun _ _ h => decode_encode h

/-! ## Each word selects exactly one operation -/

/-- The operation a word of format BYTE selects is well formed, of that format, and carries every bit of the word. -/
theorem decodeByte_sound (cfg : Config) (w : DecodeWord) :
    (decodeByte cfg w).wellFormed cfg = true ∧ (decodeByte cfg w).isByteOp = true ∧ encode (decodeByte cfg w) = .byte w := by
  rw [← byteWord_fields w]
  generalize modeField w = m
  generalize byteField w = b
  rw [Machine.decodeByte_byteWord]
  by_cases hb : b = caret
  · subst hb
    cases m <;> exact ⟨rfl, rfl, rfl⟩
  · cases m with
    | true => simp [hb, Instr.wellFormed_iff, Instr.operandOk, Instr.recognized, Instr.isByteOp, encode]
    | false =>
      cases hl : Machine.lookup cfg b <;>
        simp [hb, hl, Instr.wellFormed_iff, Instr.operandOk, Instr.recognized, Instr.isByteOp, encode]

/-- Settles O2: a word's operation encodes to that word, and the round trip makes it the only one. -/
theorem byteWordsDecodeUniquely : Obligations.ByteWordsDecodeUniquely := by
  intro cfg w
  obtain ⟨hwf, hbyte, henc⟩ := decodeByte_sound cfg w
  refine ⟨hwf, hbyte, henc, ⟨rfl, rfl⟩, fun i hi hw => ?_⟩
  simpa [hw, decode] using decode_encode hi

/-- A token operation carries no operand. -/
theorem Instr.operandOk_of_token {i : Instr} (h : i.isByteOp = false) (cfg : Config) : i.operandOk cfg = true := by
  cases i
  case nOpen | nKey | nDrop | eClose | eAppend => cases h
  all_goals rfl

/-- The decoder selects no token that is not recognized. -/
theorem decodeToken_recognized (cfg : Config) (v : Bool) (t : TokenWord) :
    (decodeToken cfg v t).recognized cfg = true := by
  unfold decodeToken
  split
  · split
    · split
      · assumption
      · rfl
    · rfl
  · rfl

/-- Settles O3: a keyed row's operation encodes to its word, and the round trip makes it the only one. -/
theorem tokenWordsDecodeUniquely : Obligations.TokenWordsDecodeUniquely := by
  intro cfg v t
  have htoken := decodeToken_isByteOp cfg v t
  refine ⟨Instr.wellFormed_iff.mpr ⟨Instr.operandOk_of_token htoken cfg, decodeToken_recognized cfg v t⟩, htoken, ?_,
    fun i hi _ hw => ?_⟩
  · rcases decodeToken_cases cfg v t with ⟨rfl, hkey⟩ | hinert
    · exact .inr (keyedToken_row hkey).2
    · exact .inl hinert
  · simpa [hw, decode] using decode_encode hi

/-- Settles O4: closed words under the test configuration. -/
theorem sampleWordsDecode : Obligations.SampleWordsDecode := by
  unfold Obligations.SampleWordsDecode
  decide

end Sys2Proof

namespace Sys2Proof.Machine

/-! ## Every operation completes (R66, R103, R126) -/

theorem State.actionOf_ownParity (s : State) (i : Instr) : (s.actionOf i).ownParity = true := by
  cases i
  case nKey b =>
    simp only [State.actionOf]
    cases lookup s.cfg b with
    | none => rfl
    | some c => exact gatedEmit_ownParity s c
  all_goals
    simp only [State.actionOf]
    exact tokenAction_ownParity s _

section
variable (s : State) (a : Action)

@[simp] theorem State.carried_resetReq : (s.carried a).resetReq = s.resetReq := by cases a <;> rfl
@[simp] theorem State.carried_draws : (s.carried a).draws = s.draws := by cases a <;> rfl

end

/-- Settles O20: an operation is its writes to the parser's state and its action carried out (`exec_eq`). -/
theorem everyOperationCompletes : Obligations.EveryOperationCompletes := by
  intro i s
  have hpar := s.actionOf_ownParity i
  refine ⟨_, s.actionOf i, exec_eq i s, State.carried_actions _ _, by simp, State.carried_input _ _,
    State.carried_resetReq _ _, by simp, State.carried_draws _ _, ?_⟩
  cases ha : s.actionOf i with
  | none => exact ⟨rfl, rfl, rfl, rfl, rfl⟩
  | emit c p => exact ⟨rfl, rfl, rfl, by simpa [ha, Action.ownParity] using hpar, rfl, rfl⟩
  | pause ms => exact ⟨rfl, rfl, rfl, rfl, rfl⟩

/-! ## The closing `^` (R71, R74) -/

/-- `E.CLOSE` is the selected token's operation on the closed state. -/
theorem exec_eClose (s : State) : exec .eClose s = exec s.closingToken s.closed :=
  runToken_eq_exec (decodeToken_isByteOp _ _ _) s.closed

/-- Settles O13: the state `exec_eq` gives for `E.CLOSE`, which is also the token's (`exec_eClose`). -/
theorem eCloseRunsTheToken : Obligations.ECloseRunsTheToken := by
  intro s
  refine ⟨rfl, _, exec_eq .eClose s, (exec_eClose s).symm.trans (exec_eq .eClose s), ?_⟩
  simp [State.parsed, modeAfter, State.tokAfter, State.tokIdxAfter]

/-! ## A row of the dictionary (R51, R75) -/

/-- A keyed row's meaning follows from the operation's own: the closing `^` reads the two bytes and selects it. -/
theorem tokenRow_of_exec {i : Instr} {w lower : TokenWord} {after : State → State} (hw : encode i = .token true w)
    (hlower : keyedToken lower = none) (hexec : ∀ s, exec i s = .next (after s)) : TokenRow i w lower after := by
  refine fun s => ⟨hexec s, decodeToken_of_not_keyed hlower _ _, fun hrec => ?_⟩
  have hdec := decodeToken_of_keyed (keyedToken_of_encode hw) hrec
  refine ⟨hdec, fun hidx hbytes => ?_⟩
  have hclose : s.closingToken = i := by
    rw [State.closingToken, State.tokenValid, State.tokenBytes, hbytes, decide_eq_true hidx, hdec]
  rw [exec_eClose, hclose, hexec]

/-- Settles O17: each row's operation carries out its pause. -/
theorem pauseTokensPause : Obligations.PauseTokensPause := by
  refine ⟨?_, ?_, ?_, ?_, ?_, ?_, ?_, ?_, ?_⟩ <;> exact tokenRow_of_exec rfl rfl fun _ => rfl

/-! ## The operation a byte selects (R49, R66, R68) -/

theorem exec_nKey {s : State} {b c : Byte} (h : lookup s.cfg b = some c) :
    exec (.nKey b) s = .next (s.afterGate c) := by
  change execNKey b s = _
  simp only [execNKey, h]
  exact carryOut_gatedEmit s c

/-- Settles O9: the looked-up code is not the sentinel, and the gate decides. -/
theorem nKeySendsItsCode : Obligations.NKeySendsItsCode := by
  intro s b c h
  obtain ⟨hentry, hne⟩ := lookup_eq_some_iff.mp h
  refine ⟨fun hb => ?_, hne, congrArg parity hentry, fun hc hg => ?_, fun hopen => ?_⟩
  · simp [decodeByte_byteWord, hb, h]
  · rw [exec_nKey h, State.afterGate, if_pos ⟨hc, hg⟩]
  · have hsend : ¬(c = s.cfg.scExecute ∧ s.gate = .disabled) := by
      rintro ⟨hc, hg⟩
      simp [hc, hg] at hopen
    rw [exec_nKey h, State.afterGate, if_neg hsend]

/-- Settles O23: the five rows of R49 in the two modes. -/
theorem translateSelectsTheOperation : Obligations.TranslateSelectsTheOperation := by
  intro s b rest hl hr hp hi
  rw [step_take s hl hr hp hi, decodeByte_byteWord, State.setInput]
  by_cases hb : b = caret
  · cases hm : s.mode <;> simp [Mode.bit, hb]
  · cases hm : s.mode with
    | escape => simp [Mode.bit, hb]
    | normal => cases hc : lookup s.cfg b <;> simp [Mode.bit, hb]

/-! ## What the gap before a byte does not read -/

/-- An update that leaves the actions and commutes with a draw commutes with the gap. -/
theorem State.afterGap_comm {s : State} (f : State → State) (hact : (f s).actions = s.actions)
    (hdraw : (f s).standForDraw = f s.standForDraw) : (f s).afterGap = f s.afterGap := by
  unfold State.afterGap
  rw [hact]
  split
  · rfl
  · rfl
  · exact hdraw
  · exact hdraw

theorem State.afterGap_setInput (s : State) (l : List Byte) : (s.setInput l).afterGap = s.afterGap.setInput l :=
  State.afterGap_comm (fun s => s.setInput l) rfl rfl

theorem State.afterGap_setMode (s : State) (m : Mode) : (s.setMode m).afterGap = s.afterGap.setMode m :=
  State.afterGap_comm (fun s => s.setMode m) rfl rfl

theorem State.afterGap_withBuffer (s : State) (m : Memory) (n : Nat) (l : List Byte) :
    (s.withBuffer m n l).afterGap = s.afterGap.withBuffer m n l :=
  State.afterGap_comm (State.withBuffer m n l) rfl rfl

/-- A `^` in an open sequence: after the gap the sequence is closed, and the stored bytes' operation is done. -/
theorem step_close {s : State} {rest : List Byte} (hl : legal s.cfg = true) (hr : s.resetReq = false)
    (hp : s.phase = .idle) (hm : s.mode = .escape) (hi : s.input = caret :: rest) :
    step s = exec s.closingToken ((s.setMode .normal).withBuffer [] 0 rest).afterGap := by
  have hdec : decodeByte s.cfg (byteWord s.mode.bit caret) = .eClose := by rw [hm]; rfl
  rw [step_take s hl hr hp hi, hdec, exec_eClose, State.closingToken_taking, State.afterGap_withBuffer,
    State.afterGap_setMode]
  rfl

/-! ## A placed word (R48, R50) -/

@[simp] theorem Mode.bit_ofBit (b : Bool) : (Mode.ofBit b).bit = b := by cases b <;> rfl

/-- A placed word of format BYTE is its byte, next to be taken in the mode it names. -/
theorem step_placeWord_byte {s : State} (hl : legal s.cfg = true) (w : DecodeWord) :
    step (placeWord s (.byte w)) =
      exec (decodeByte s.cfg w) ((readyForByte s).setMode (Mode.ofBit (modeField w))).afterGap := by
  have hword : byteWord (placeWord s (.byte w)).mode.bit (byteField w) = w := by
    change byteWord (Mode.ofBit (modeField w)).bit _ = w
    rw [Mode.bit_ofBit, byteWord_fields]
  rw [step_take (placeWord s (.byte w)) hl rfl rfl rfl, hword, ← State.afterGap_setInput]
  rfl

/-- A placed token word is the token its sequence closes on. -/
theorem closingToken_placeWord (s : State) (v : Bool) (t : TokenWord) :
    (placeWord s (.token v t)).closingToken = decodeToken s.cfg v t := by
  cases v with
  | false => rfl
  | true =>
    have hwf : (Memory.write [] 0 (firstField t)).wf = true := Memory.write_wf _ _ Memory.wf_nil
    change decodeToken s.cfg true (tokenWord (Memory.read (.write _ 1 _) 0) (Memory.read (.write _ 1 _) 1)) = _
    rw [Memory.read_write _ _ hwf, Memory.read_write _ _ hwf, Memory.read_write _ _ Memory.wf_nil]
    simp [tokenWord_fields]

/-- Settles O33: a placed byte is taken; a placed token word's `^` closes the sequence that holds it. -/
theorem placedWordRunsNext : Obligations.PlacedWordRunsNext := by
  refine fun s hl => ⟨step_placeWord_byte hl, fun v t => ?_⟩
  rw [step_close (s := placeWord s (.token v t)) hl rfl rfl rfl rfl, closingToken_placeWord]
  rfl

/-! ## A sequence's operation is selected by its first two bytes (R70, R75, R118) -/

/-- The closing token depends on the configuration and the buffer only. -/
theorem State.closingToken_congr {s u : State} (hcfg : u.cfg = s.cfg) (htok : u.tok = s.tok) (hidx : u.tokIdx = s.tokIdx) :
    u.closingToken = s.closingToken := by
  simp only [State.closingToken, State.tokenValid, State.tokenBytes, hcfg, htok, hidx]

/-- Below the cap an append writes the next slot. -/
theorem State.append_of_lt {s : State} (h : s.tokIdx < s.cfg.tokenCap) (b : Byte) :
    s.append b = (s.setTok (s.tok.write s.tokIdx b)).setTokIdx (s.tokIdx + 1) := by
  rw [State.append, State.appendSlot, State.appendIdx, if_pos h, if_pos h]

/-- With two bytes stored, an append writes slot 2 or a later one. -/
theorem State.two_le_appendSlot {s : State} (hcap : 3 ≤ s.cfg.tokenCap) (hidx : 2 ≤ s.tokIdx) : 2 ≤ s.appendSlot := by
  unfold State.appendSlot
  split <;> omega

theorem State.tokIdx_le_appendIdx (s : State) : s.tokIdx ≤ s.appendIdx := by
  unfold State.appendIdx
  split <;> omega

/-- With two bytes stored, a further byte leaves the closing token. -/
theorem State.closingToken_append {s : State} (hcap : 3 ≤ s.cfg.tokenCap) (hwf : s.tok.wf = true) (hidx : 2 ≤ s.tokIdx)
    (b : Byte) : (s.append b).closingToken = s.closingToken := by
  have hslot := State.two_le_appendSlot hcap hidx
  have hvalid : (s.append b).tokenValid = s.tokenValid := by
    have hle := s.tokIdx_le_appendIdx
    simp only [State.tokenValid, State.append_tokIdx, hidx, hidx.trans hle]
  have hbytes : (s.append b).tokenBytes = s.tokenBytes := by
    simp only [State.tokenBytes, State.append_tok, Memory.read_write _ _ hwf]
    rw [if_neg (by omega), if_neg (by omega)]
  rw [State.closingToken, hvalid, hbytes, State.append_cfg, State.closingToken]

/-- With two bytes stored, no number of further bytes changes the closing token. -/
theorem State.closingToken_foldl_append {s : State} (hcap : 3 ≤ s.cfg.tokenCap) (hwf : s.tok.wf = true)
    (hidx : 2 ≤ s.tokIdx) (xs : List Byte) : (xs.foldl State.append s).closingToken = s.closingToken := by
  induction xs generalizing s with
  | nil => rfl
  | cons x xs ih =>
    rw [List.foldl_cons, ih (s := s.append x) hcap (State.append_wf x hwf) (hidx.trans s.tokIdx_le_appendIdx),
      State.closingToken_append hcap hwf hidx]

/-- The token a sequence closes on, from its first two bytes, or the inert one. -/
theorem State.closingToken_text {s : State} (hcap : 3 ≤ s.cfg.tokenCap) (htok : s.tok = []) (hidx : s.tokIdx = 0)
    (xs : List Byte) :
    (xs.foldl State.append s).closingToken =
      decodeToken s.cfg (decide (2 ≤ xs.length)) (tokenWord (xs.getD 0 0x00#8) (xs.getD 1 0x00#8)) := by
  match xs with
  | [] => simp [State.closingToken, State.tokenValid, hidx]
  | [x] => simp [State.closingToken, State.tokenValid, State.append_of_lt (by omega : s.tokIdx < _), hidx]
  | x :: y :: ys =>
    obtain ⟨u, hu⟩ : ∃ u, u = (s.append x).append y := ⟨_, rfl⟩
    have hwf : (Memory.write [] 0 x).wf = true := Memory.write_wf 0 x Memory.wf_nil
    have htwo : u = (s.setTok ((Memory.write [] 0 x).write 1 y)).setTokIdx 2 := by
      rw [hu, State.append_of_lt (by omega) x, State.append_of_lt (by simp [hidx]; omega) y, htok, hidx]
      rfl
    have hbytes : u.tokenBytes = (x, y) := by
      simp [htwo, State.tokenBytes, Memory.read_write _ _ hwf, Memory.read_write _ _ Memory.wf_nil]
    have hkeep : (ys.foldl State.append u).closingToken = u.closingToken :=
      State.closingToken_foldl_append (by simpa [htwo] using hcap) (by simpa [htwo] using Memory.write_wf 1 y hwf)
        (by simp [htwo]) ys
    rw [List.foldl_cons, List.foldl_cons, ← hu, hkeep, State.closingToken, hbytes]
    simp [htwo, State.tokenValid]

/-! ## A whole sequence (R54, R67, R70, R71) -/

/-- A gap and a `None` neither read nor write the mode. -/
theorem State.iterate_takeNone_setMode (m : Mode) (k : Nat) (s : State) :
    State.takeNone^[k] (s.setMode m) = (State.takeNone^[k] s).setMode m := by
  have hone : Function.Commute State.takeNone fun s => s.setMode m := fun s => by
    change (s.setMode m).afterGap.afterNone = _
    rw [State.afterGap_setMode]
    rfl
  exact hone.iterate_left k s

/-- After bytes with the action `None` the next byte may be taken. -/
theorem State.iterate_takeNone_ready {s : State} (hp : s.phase = .idle) (k : Nat) :
    (State.takeNone^[k] s).cfg = s.cfg ∧ (State.takeNone^[k] s).resetReq = s.resetReq ∧
      (State.takeNone^[k] s).phase = .idle := by
  induction k with
  | zero => exact ⟨rfl, rfl, hp⟩
  | succ k ih =>
    obtain ⟨hcfg, hreset, -⟩ := ih
    rw [Function.iterate_succ_apply', State.takeNone_eq]
    simp [hcfg, hreset]

theorem State.foldl_append_cfg (s : State) (xs : List Byte) : (xs.foldl State.append s).cfg = s.cfg := by
  induction xs generalizing s with
  | nil => rfl
  | cons x xs ih => exact ih (s.append x)

/-- A `^` in `Normal` opens a sequence, with the action `None`. -/
theorem step_open {s : State} {rest : List Byte} (hl : legal s.cfg = true) (hr : s.resetReq = false)
    (hp : s.phase = .idle) (hm : s.mode = .normal) (hi : s.input = caret :: rest) :
    step s = .next ((s.takeNone.setMode .escape).withBuffer [] 0 rest) := by
  have hdec : decodeByte s.cfg (byteWord s.mode.bit caret) = .nOpen := by rw [hm]; rfl
  rw [step_take s hl hr hp hi, hdec]
  rfl

/-- The opening `^` and the text after it: `None` for each byte, the text in the buffer, and the sequence open. -/
theorem run_open_append {s : State} {xs rest : List Byte} (hl : legal s.cfg = true) (hr : s.resetReq = false)
    (hp : s.phase = .idle) (hm : s.mode = .normal) (hxs : ∀ x ∈ xs, x ≠ caret) (hi : s.input = caret :: (xs ++ rest)) :
    run (xs.length + 1) s =
      .next (((State.takeNone^[xs.length + 1] s).setMode .escape).withBuffer
        (xs.foldl State.append (s.withBuffer [] 0 [])).tok (xs.foldl State.append (s.withBuffer [] 0 [])).tokIdx rest) := by
  obtain ⟨hcfg, hreset, hidle⟩ := State.iterate_takeNone_ready hp 1
  have hopen := step_open hl hr hp hm hi
  have hl' : legal ((s.takeNone.setMode .escape).withBuffer [] 0 (xs ++ rest)).cfg = true := by
    rw [← hl, ← hcfg]; rfl
  have htext := run_append hl' (hreset.trans hr) hidle rfl hxs rfl
  obtain ⟨htok, hidx⟩ := State.foldl_append_congr (s := s.withBuffer [] 0 [])
    (u := (s.takeNone.setMode .escape).withBuffer [] 0 (xs ++ rest)) hcfg rfl rfl xs
  rw [run_succ hopen, htext, htok, hidx, State.iterate_takeNone_withBuffer, State.iterate_takeNone_setMode,
    Function.iterate_succ_apply]
  rfl

theorem run_one (s : State) : run 1 s = step s := by
  cases h : step s <;> simp [run, h]

/-- The closing `^` after the bytes of a sequence, whatever buffer they left. -/
theorem step_close_withBuffer {s : State} (hl : legal s.cfg = true) (hr : s.resetReq = false) (hp : s.phase = .idle)
    (hm : s.mode = .normal) (m : Memory) (n : Nat) (rest : List Byte) :
    step ((s.setMode .escape).withBuffer m n (caret :: rest)) =
      exec (s.withBuffer m n rest).closingToken (s.afterGap.withBuffer [] 0 rest) := by
  have hnormal : s.setMode .normal = s := by rw [← hm]; rfl
  rw [step_close (s := (s.setMode .escape).withBuffer m n (caret :: rest)) hl hr hp rfl rfl]
  change exec _ ((s.setMode .normal).withBuffer [] 0 rest).afterGap = _
  rw [hnormal, State.afterGap_withBuffer]
  rfl

/-- Settles O42: the opening `^` and the text (`run_open_append`), then the closing `^` (`step_close_withBuffer`), whose
token is the text's (`State.closingToken_text`). -/
theorem sequenceIsItsFirstTwoBytes : Obligations.SequenceIsItsFirstTwoBytes := by
  intro s xs rest hl hr hp hm hxs hi
  obtain ⟨hact, hmode, -⟩ := s.iterate_takeNone_frame (xs.length + 1)
  obtain ⟨hcfg, hreset, hidle⟩ := State.iterate_takeNone_ready hp (xs.length + 1)
  refine ⟨?_, hact⟩
  rw [run_add (run_open_append hl hr hp hm hxs hi) 1, run_one,
    step_close_withBuffer (by rwa [hcfg]) (hreset.trans hr) hidle (hmode.trans hm)]
  have htoken := State.closingToken_text (s := s.withBuffer [] 0 []) (three_le_tokenCap hl) rfl rfl xs
  refine congrArg (fun i => exec i _) (Eq.trans ?_ htoken)
  exact State.closingToken_congr (hcfg.trans (State.foldl_append_cfg (s.withBuffer [] 0 []) xs).symm) rfl rfl

end Sys2Proof.Machine
end

section
/-! PROOFS. The statements of spec/40_lookup_parity.md: parity as an exclusive-or, the return bytes at the Execute Gate, and
that no step of a legal configuration faults. -/

namespace Sys2Proof.Machine

/-! ## The Parity Rule (R60) -/

/-- One more index flips the parity of a count exactly when it is counted. -/
theorem oddCount_range_succ (f : Nat → Bool) (n : Nat) :
    (((List.range (n + 1)).filter f).length % 2 == 1) = (f n != (((List.range n).filter f).length % 2 == 1)) := by
  rw [List.range_succ, List.filter_append, List.length_append]
  cases hf : f n with
  | false => simp [hf]
  | true =>
    rcases Nat.mod_two_eq_zero_or_one ((List.range n).filter f).length with h | h <;> simp [hf, Nat.add_mod, h]

/-- Settles O6: parity as the exclusive-or, bit by bit from the lowest (`oddCount_range_succ`). -/
theorem parityIsOddCountOfOnes : Obligations.ParityIsOddCountOfOnes := by
  refine fun v => ⟨by simp [parity], ?_⟩
  rw [parity, popcount]
  simp [oddCount_range_succ, -List.range_one]

/-! ## CR and LF at the Execute Gate (R59, R63, R68) -/

/-- In `Normal` a mapped byte sends its code through the gate. -/
theorem step_key {s : State} {b c : Byte} {rest : List Byte} (hl : legal s.cfg = true) (hr : s.resetReq = false)
    (hp : s.phase = .idle) (hm : s.mode = .normal) (hi : s.input = b :: rest) (hb : b ≠ caret)
    (hc : lookup s.cfg b = some c) : step s = .next ((s.afterGap.setInput rest).afterGate c) := by
  obtain ⟨hdec, -⟩ := nKeySendsItsCode s b c hc
  rw [step_take s hl hr hp hi, hm]
  change exec (decodeByte s.cfg (byteWord false b)) _ = _
  rw [hdec hb, exec_nKey (by simpa using hc)]

/-- Settles O44: both bytes look up to the Execute code (`legalTableLookups`), and the gate decides. -/
theorem returnBytesGoThroughTheGate : Obligations.ReturnBytesGoThroughTheGate := by
  intro s b rest hl hr hp hm hi hb
  obtain ⟨-, -, -, hCR, hLF, -⟩ := legalTableLookups s.cfg hl
  have hstep : step s = .next ((s.afterGap.setInput rest).afterGate s.cfg.scExecute) := by
    rcases hb with rfl | rfl
    · exact step_key hl hr hp hm hi (by decide) hCR
    · exact step_key hl hr hp hm hi (by decide) hLF
  refine ⟨fun hg => ?_, fun hg => ?_⟩
  · rw [hstep, State.afterGate, if_neg (by simp [hg])]
    rfl
  · rw [hstep, State.afterGate, if_pos (by simp [hg])]
    rfl

/-! ## No step of a legal configuration stops (R61, R115, R120) -/

/-- Settles O25: every operation answers (`step_answers`), with the same configuration. -/
theorem legalStepsAlwaysAnswer : Obligations.LegalStepsAlwaysAnswer := by
  intro s hl
  obtain ⟨t, ht⟩ := step_answers hl
  exact ⟨t, ht, configurationNeverChanges s t ht⟩

end Sys2Proof.Machine
end

section
/-! PROOFS. The statements of spec/41_execute_gate.md: the gate suppresses the Execute code and decides nothing else. -/

namespace Sys2Proof.Machine

/-! ## What the gate decides (R63, R64) -/

/-- An action with the gate enabled (`on`) against the same action with the gate disabled (`off`), `x` being the Execute
code: the gate turns an `Emit` of `x` into `None`, and leaves every other action. -/
def SuppressesOnly (x : Byte) (on off : Action) : Prop :=
  (off = on ∧ ∀ p, on ≠ .emit x p) ∨ ((∃ p, on = .emit x p) ∧ off = .none)

theorem gatedEmit_suppressesOnly (s : State) (c : Byte) :
    SuppressesOnly s.cfg.scExecute (gatedEmit (s.setGate .enabled) c) (gatedEmit (s.setGate .disabled) c) := by
  by_cases hc : c = s.cfg.scExecute
  · exact .inr ⟨⟨parity c, by simp [gatedEmit, hc]⟩, by simp [gatedEmit, hc]⟩
  · exact .inl (by simp [gatedEmit, hc])

/-- An action that is no `Emit` does not depend on the gate. -/
theorem suppressesOnly_self (x : Byte) {a : Action} (h : ∀ c p, a ≠ .emit c p) : SuppressesOnly x a a :=
  .inl ⟨rfl, h x⟩

theorem tokenAction_suppressesOnly (s : State) (i : Instr) :
    SuppressesOnly s.cfg.scExecute (tokenAction (s.setGate .enabled) i) (tokenAction (s.setGate .disabled) i) := by
  cases i
  case tLE | tRI | tUP | tDO | tSU | tSD | tHO | tEX | tAT | tCA | tCP | tCM | tCS => exact gatedEmit_suppressesOnly s _
  all_goals exact suppressesOnly_self _ nofun

/-- Every operation's action is a gated code, or does not depend on the gate. -/
theorem State.actionOf_suppressesOnly (s : State) (i : Instr) :
    SuppressesOnly s.cfg.scExecute ((s.setGate .enabled).actionOf i) ((s.setGate .disabled).actionOf i) := by
  cases i
  case nKey b =>
    simp only [State.actionOf, State.setGate_cfg]
    cases lookup s.cfg b with
    | none => exact suppressesOnly_self _ nofun
    | some c => exact gatedEmit_suppressesOnly s c
  all_goals
    simp only [State.actionOf]
    exact tokenAction_suppressesOnly s _

/-! ## No Execute code while the gate is disabled (R63, R140) -/

theorem State.setGate_of_gate_eq {s : State} {g : Gate} (h : s.gate = g) : s.setGate g = s := by
  rw [← h]; rfl

theorem State.actionOf_ne_execute {s : State} (hg : s.gate = .disabled) (i : Instr) (p : Bool) :
    s.actionOf i ≠ .emit s.cfg.scExecute p := by
  have hgate := s.actionOf_suppressesOnly i
  rw [State.setGate_of_gate_eq hg] at hgate
  rcases hgate with ⟨hsame, hne⟩ | ⟨-, hnone⟩
  · rw [hsame]; exact hne p
  · rw [hnone]; nofun

/-- Settles O45: only taking a byte adds an action, and with the gate disabled that is no Execute code
(`State.actionOf_ne_execute`). -/
theorem disabledGateSendsNoExecute : Obligations.DisabledGateSendsNoExecute := by
  intro s t hg h p
  obtain ⟨-, ⟨-, rfl⟩ | ⟨-, -, -, rfl⟩ | ⟨-, -, b, rest, -, htake⟩ | ⟨-, -, rfl⟩⟩ := step_cases h
  · simp
  · simp
  · obtain rfl : t = s.taken b rest := eq_of_exec htake
    rw [State.taken_actions, Ne, List.append_cancel_left_eq, List.singleton_inj]
    simpa using State.actionOf_ne_execute (s := s.afterGap.setInput rest) (by simpa using hg)
      (decodeByte s.cfg (byteWord s.mode.bit b)) p
  · simp

/-! ## The gate decides nothing else (R63 to R65) -/

/-- Carrying out an action neither reads nor writes the gate. -/
theorem State.carried_setGate (s : State) (g : Gate) (a : Action) : (s.setGate g).carried a = (s.carried a).setGate g := by
  cases a <;> rfl

/-- An operation's writes read the gate for the gate only. -/
theorem State.parsed_setGate (s : State) (g : Gate) (i : Instr) :
    (s.setGate g).parsed i = (s.parsed i).setGate ((s.setGate g).gateAfter i) := by
  cases i <;> rfl

@[simp] theorem State.parsed_actions (s : State) (i : Instr) : (s.parsed i).actions = s.actions := rfl

/-- Two runs of an operation that differ in the gate differ in its action and in the gate it leaves, at most. -/
theorem exec_setGate (s : State) (g : Gate) (i : Instr) :
    exec i (s.setGate g) =
      .next (((s.parsed i).carried ((s.setGate g).actionOf i)).setGate ((s.setGate g).gateAfter i)) := by
  rw [exec_eq, State.parsed_setGate, State.carried_setGate]

theorem tokenGate_of_emit {s : State} {i : Instr} {c : Byte} {p : Bool} (h : tokenAction s i = .emit c p) (g : Gate) :
    tokenGate i g = g :=
  tokenGate_of_ne (by rintro rfl; cases h) (by rintro rfl; cases h) g

/-- An operation that sends a code leaves the gate, whatever its value. -/
theorem State.gateAfter_of_emit {s : State} {i : Instr} {c : Byte} {p : Bool} (h : s.actionOf i = .emit c p) (g : Gate) :
    (s.setGate g).gateAfter i = g := by
  cases i
  case nKey => rfl
  all_goals
    simp only [State.actionOf] at h
    exact tokenGate_of_emit h g

/-- Settles O46: the two runs make the same writes, the gate apart (`exec_setGate`), and carry out the same action unless
that is an `Emit` of the Execute code (`State.actionOf_suppressesOnly`). -/
theorem gateOnlyAffectsExecute : Obligations.GateOnlyAffectsExecute := by
  intro i s t h
  change exec i (s.setGate .enabled) = .next t at h
  rw [exec_setGate] at h
  obtain rfl := Host.Outcome.next.inj h
  refine ⟨_, exec_setGate s .disabled i, ?_⟩
  rcases s.actionOf_suppressesOnly i with ⟨hsame, hne⟩ | ⟨⟨p, hon⟩, hoff⟩
  · rw [hsame]
    exact ⟨fun _ => rfl, fun ⟨p, hp⟩ => absurd (by simpa using hp) (hne p)⟩
  · rw [hon, hoff]
    refine ⟨fun hne => absurd rfl (hne p), fun _ => ?_⟩
    exact ⟨rfl, rfl, State.gateAfter_of_emit hon _, rfl, rfl, rfl, rfl, rfl, rfl, rfl⟩

end Sys2Proof.Machine
end

section
/-! PROOFS. The statements of spec/42_escape_parser.md: opening a sequence, dropping a byte, appending a byte, and closing a
sequence that holds no key. -/

namespace Sys2Proof.Machine

/-! ## Appending (R70, R118) -/

/-- `E.APPEND` appends the byte, with the action `None`. -/
theorem exec_eAppend (b : Byte) (s : State) : exec (.eAppend b) s = .next (s.append b).afterNone := rfl

/-- Below the cap an append uses the next slot, and the index grows. -/
theorem State.appendSlot_appendIdx_of_lt {s : State} (h : s.tokIdx < s.cfg.tokenCap) :
    s.appendSlot = s.tokIdx ∧ s.appendIdx = s.tokIdx + 1 :=
  ⟨if_pos h, if_pos h⟩

/-- At the cap an append uses the last slot, and the index stays. -/
theorem State.appendSlot_appendIdx_of_le {s : State} (h : s.cfg.tokenCap ≤ s.tokIdx) :
    s.appendSlot = s.cfg.tokenCap - 1 ∧ s.appendIdx = s.tokIdx :=
  ⟨if_neg h.not_gt, if_neg h.not_gt⟩

/-- What a slot reads as after an append. -/
theorem State.append_read {s : State} (hwf : s.tok.wf = true) (b : Byte) (a : Nat) :
    (s.append b).tok.read a = if a = s.appendSlot then b else s.tok.read a :=
  Memory.read_write s.appendSlot b hwf a

/-- With two bytes stored, an append leaves slots 0 and 1. -/
theorem State.append_read_of_lt_two {s : State} (hcap : 3 ≤ s.cfg.tokenCap) (hwf : s.tok.wf = true) (hidx : 2 ≤ s.tokIdx)
    (b : Byte) {a : Nat} (ha : a < 2) : (s.append b).tok.read a = s.tok.read a := by
  have hslot := State.two_le_appendSlot hcap hidx
  rw [State.append_read hwf, if_neg (by omega)]

/-- Settles O11: the slot and the index on either side of the cap, and the read after the write. -/
theorem appendStoresOneSlot : Obligations.AppendStoresOneSlot := by
  intro s b hwf
  refine ⟨fun hb => ?_, _, exec_eAppend b s, State.appendSlot_appendIdx_of_lt, State.appendSlot_appendIdx_of_le,
    State.append_read hwf b, State.append_wf b hwf, rfl⟩
  simp [decodeByte_byteWord, hb]

/-- Settles O12: a legal cap is at least 3, so the slot written is 2 or a later one. -/
theorem overflowKeepsTheToken : Obligations.OverflowKeepsTheToken := by
  intro s t b hl hwf hidx h
  have hcap := three_le_tokenCap hl
  rw [exec_eAppend] at h
  obtain rfl := Host.Outcome.next.inj h
  exact ⟨State.append_read_of_lt_two hcap hwf hidx b Nat.zero_lt_two,
    State.append_read_of_lt_two hcap hwf hidx b Nat.one_lt_two,
    hidx.trans s.tokIdx_le_appendIdx, State.closingToken_append hcap hwf hidx b⟩

/-! ## Opening and dropping (R67, R69) -/

/-- Settles O8: `^` selects the first row of R49, whose operation clears the buffer. -/
theorem nOpenOpensASequence : Obligations.NOpenOpensASequence := by
  refine fun s => ⟨?_, carryOut_none (s.setMode .escape).clearBuffer, Memory.read_nil⟩
  change decodeByte s.cfg (byteWord false caret) = .nOpen
  simp [decodeByte_byteWord]

/-- Settles O10: the Code Table sends an unmapped byte to `N.DROP`, which carries out `None`. -/
theorem nDropDoesNothing : Obligations.NDropDoesNothing := by
  refine fun s b => ⟨fun hb hl => ?_, carryOut_none s⟩
  simp [decodeByte_byteWord, hb, hl]

/-! ## Sequences that hold no key (R71, R100, R117) -/

/-- A word that is none of the dictionary's keys has no row. -/
theorem keyedToken_eq_none {t : TokenWord} (h : t ∉ tokenTable.map Prod.fst) : keyedToken t = none := by
  rw [keyedToken, Option.map_eq_none_iff, List.find?_eq_none]
  exact fun r hr hkey => h (List.mem_map.mpr ⟨r, hr, eq_of_beq hkey⟩)

/-- Closing a sequence that selects the inert token does nothing but close it. -/
theorem exec_eClose_of_inert {s : State} (h : s.closingToken = .tInert) : exec .eClose s = .next s.closed.afterNone := by
  rw [exec_eClose, h]
  exact carryOut_none s.closed

/-- Settles O19: fewer than two bytes make no valid token, and a word with no row selects the inert one. -/
theorem inertTokensDoNothing : Obligations.InertTokensDoNothing := by
  refine fun s => ⟨carryOut_none s, fun hidx => exec_eClose_of_inert ?_, fun hkeys => exec_eClose_of_inert ?_⟩
  · have hvalid : s.tokenValid = false := decide_eq_false hidx.not_ge
    rw [State.closingToken, hvalid, decodeToken_false]
  · exact decodeToken_of_not_keyed (keyedToken_eq_none hkeys) s.cfg s.tokenValid

end Sys2Proof.Machine
end

section
/-! PROOFS. The statements of spec/43_tokens.md: the scan-code rows and the gate rows of the token dictionary. -/

namespace Sys2Proof.Machine

/-! ## The scan-code rows (R76 to R88) -/

/-- A keyed row whose operation carries out `gated_emit` of one of R8's codes. -/
theorem scanRow_of_exec {i : Instr} {w lower : TokenWord} {code : Config → Byte} (hw : encode i = .token true w)
    (hlower : keyedToken lower = none) (hexec : ∀ s, exec i s = carryOut s (gatedEmit s (code s.cfg)))
    (hcode : ∀ cfg, code cfg ∈ scanCodes cfg) : ScanRow i w lower code :=
  ⟨tokenRow_of_exec hw hlower fun s => (hexec s).trans (carryOut_gatedEmit s _),
    fun cfg hl => scanCode_ne_zero hl (hcode cfg)⟩

/-- Settles O14: each arrow's operation sends its code through the gate (`scanRow_of_exec`). -/
theorem arrowTokensSend : Obligations.ArrowTokensSend := by
  refine ⟨?_, ?_, ?_, ?_⟩ <;> exact scanRow_of_exec rfl rfl (fun _ => rfl) fun _ => by simp [scanCodes]

/-- Settles O15: as for the arrows, and the rows' recognition is the parameter itself. -/
theorem shiftArrowTokensSend : Obligations.ShiftArrowTokensSend := by
  refine ⟨?_, ?_, fun _ => ⟨rfl, rfl⟩⟩ <;> exact scanRow_of_exec rfl rfl (fun _ => rfl) fun _ => by simp [scanCodes]

/-- Settles O16: as for the arrows; `EX` sends the one code that the gate suppresses. -/
theorem keyTokensSend : Obligations.KeyTokensSend := by
  refine ⟨?_, ?_, ?_, ?_, ?_, ?_, ?_⟩ <;> exact scanRow_of_exec rfl rfl (fun _ => rfl) fun _ => by simp [scanCodes]

/-! ## The gate rows (R98, R99) -/

/-- Settles O18: each row sets the gate and carries out `None`; `EO` has no row. -/
theorem gateTokensSetTheGate : Obligations.GateTokensSetTheGate :=
  ⟨tokenRow_of_exec rfl rfl fun s => carryOut_none (s.setGate .disabled),
    tokenRow_of_exec rfl rfl fun s => carryOut_none (s.setGate .enabled),
    fun cfg => decodeToken_of_not_keyed rfl cfg true⟩

end Sys2Proof.Machine
end

section
/-! PROOFS. The statements of spec/44_strobe_transmitter.md: a transmission's five bus images, and the odd number of lines
under the strobe. -/

namespace Sys2Proof.Machine

/-! ## One transmission (R104 to R111) -/

/-- `s` after steps 1 to 3: the strobe stands over the lines due for the latched code and parity, and the hold begins. -/
def State.strobed (s : State) : State :=
  { s with
    bus := dueBus s.txCode s.txPar .txHold, phase := .txHold, tmr := s.cfg.strobeHold, draws := s.draws + 2,
    trace := s.trace ++
      [(dueBus s.txCode s.txPar .txPar, .draw (Config.freeGap s.draws)),
       (dueBus s.txCode s.txPar .txStrobeOn, .draw (Config.freeGap (s.draws + 1))),
       (dueBus s.txCode s.txPar .txHold, .strobe s.cfg.strobeHold)] }

/-- On an idle line, R105's step makes the line due for the parity bit. -/
theorem ite_asserted_eq_parityLine (p : Bool) : (if p = false then Line.asserted else .idle) = parityLine p := by
  cases p <;> rfl

/-- From idle lines, the first three bus steps make the images of the first three rows of R111. -/
theorem strobed_eq {s : State} (hb : s.bus = Bus.released) : stepTxStrobeOn (stepTxPar (stepTxData s)) = s.strobed := by
  simp [stepTxStrobeOn, stepTxPar, stepTxData, State.setBus, State.setPhase, State.setTmr, State.logImage,
    State.logImageForDraw, hb, Bus.released, assertZeroBits_idle, ite_asserted_eq_parityLine, State.strobed, dueBus]

section
variable {s : State} (hl : legal s.cfg = true) (hr : s.resetReq = false)
include hl hr

/-- Steps 1 to 3. -/
theorem run_txData (hp : s.phase = .txData) (hb : s.bus = Bus.released) : run 3 s = .next s.strobed := by
  have hpar := step_txPar (s := stepTxData s) (by simpa using hl) (by simpa using hr) (by simp)
  have hon := step_txStrobeOn (s := stepTxPar (stepTxData s)) (by simpa using hl) (by simpa using hr) (by simp)
  rw [run_succ (step_txData hl hr hp) 2, run_succ hpar 1, run_one, hon, strobed_eq hb]

/-- Step 4: one step for each tick of the hold, and the one that sees the timer at 0. -/
theorem run_txHold (hp : s.phase = .txHold) : run (s.tmr + 1) s = .next { s with tmr := 0, phase := .txStrobeOff } := by
  induction hn : s.tmr generalizing s with
  | zero => rw [run_one, step_txHold hl hr hp, waitFor_zero _ hn, ← hn]
  | succ n ih =>
    have htick : step s = .next { s with tmr := n } := by
      rw [step_txHold hl hr hp, waitFor_pos _ (by omega), hn, Nat.add_sub_cancel]
    rw [run_succ htick, ih (s := { s with tmr := n }) hl hr hp rfl]

/-- Steps 5 and 6: the strobe goes idle, then the other lines. -/
theorem run_txStrobeOff (hp : s.phase = .txStrobeOff) :
    run 2 s = .next { s with
      bus := Bus.released, phase := .idle, draws := s.draws + 2,
      trace := s.trace ++
        [({ s.bus with s := .idle }, .draw (Config.freeGap s.draws)),
         (Bus.released, .draw (Config.freeGap (s.draws + 1)))] } := by
  rw [run_succ (step_txStrobeOff hl hr hp) 1, run_one, step_txRelease (s := stepTxStrobeOff s) hl hr rfl]
  simp [stepTxStrobeOff, stepTxRelease, State.setBus, State.setPhase, State.logImageForDraw, Bus.released]

end

/-- Settles O39: steps 1 to 3 (`run_txData`), the hold (`run_txHold`), steps 5 and 6 (`run_txStrobeOff`), in that order. -/
theorem oneTransmissionIsFiveImages : Obligations.OneTransmissionIsFiveImages := by
  intro s hl hr hp hb
  refine ⟨Config.freeGap s.draws, Config.freeGap (s.draws + 1), Config.freeGap (s.draws + 2),
    Config.freeGap (s.draws + 3), ?_⟩
  have hhold : run (s.cfg.strobeHold + 1) s.strobed = .next { s.strobed with tmr := 0, phase := .txStrobeOff } :=
    run_txHold (s := s.strobed) hl hr rfl
  have hsteps : s.cfg.strobeHold + 6 = 3 + (s.cfg.strobeHold + 1 + 2) := by omega
  rw [hsteps, run_add (run_txData hl hr hp hb), run_add hhold,
    run_txStrobeOff (s := { s.strobed with tmr := 0, phase := .txStrobeOff }) hl hr rfl]
  simp [State.strobed, dueBus, hb]

/-! ## An odd number of lines under the strobe (R112) -/

theorem Bus.assertedLines_odd {b : Bus} (h : b.targetOk = true) (hs : b.s = .asserted) : b.assertedLines % 2 = 1 := by
  simpa [Bus.targetOk, hs] using h

/-- Settles O51: the invariant holds after the step too, and its lines are ones the target may see. -/
theorem strobedLinesAreOdd : Obligations.StrobedLinesAreOdd :=
  fun s t hinv h hs => Bus.assertedLines_odd (everyStepKeepsTheInvariant s t hinv h).bus_targetOk hs

end Sys2Proof.Machine
end

section
/-! PROOFS. The statements of spec/60_exceptions.md: an illegal configuration is refused. -/

namespace Sys2Proof.Machine

/-! ## The refusal (R120) -/

/-- Settles O24: the refusing direction of `step_eq_refused_iff`. -/
theorem illegalConfigurationIsRefused : Obligations.IllegalConfigurationIsRefused :=
  fun s hl => (step_eq_refused_iff s).mpr hl

end Sys2Proof.Machine
end

section
/-! PROOFS. The statements of spec/70_reset_and_hazards.md: the values reset leaves, that a requested restart takes effect
at once, and the invariant at reset. -/

namespace Sys2Proof.Machine

/-! ## What reset leaves (R131) -/

@[simp] theorem Bus.released_data (i : Fin 8) : Bus.released.d[i] = .idle := Vector.getElem_replicate i.isLt

/-- No slot of the reset state's buffer is listed, so each reads as the cleared value. -/
theorem State.resetWith_read_tok (cfg : Config) (i : Nat) : (State.resetWith cfg).tok.read i = 0x00#8 :=
  Memory.read_nil i

/-- Settles O34: the buffer and the data lines by their lemmas, every other element as `State.resetWith` gives it. -/
theorem resetValues : Obligations.ResetValues :=
  fun cfg =>
    ⟨rfl, rfl, State.resetWith_read_tok cfg, rfl, rfl, rfl, Bus.released_data, rfl, rfl, rfl, rfl, rfl, rfl, rfl, rfl⟩

/-! ## A requested restart (R130, R132) -/

/-- Under a legal configuration, a requested restart is the step, whatever the phase. -/
theorem step_eq_restart {s : State} (hl : legal s.cfg = true) (hr : s.resetReq = true) : step s = .next (restart s) := by
  rw [step_eq, if_neg (by simp [hl]), if_pos hr]

/-- Settles O35: the step is `restart`, which `restart_eq` writes out. -/
theorem restartTakesEffectAtOnce : Obligations.RestartTakesEffectAtOnce :=
  fun s hl hr => ⟨restart s, step_eq_restart hl hr, restart_eq s, rfl, rfl, rfl, rfl, rfl, restart_resetReq s⟩

/-! ## The invariant at reset -/

theorem legal_tc : legal Config.tc = true := by decide

/-- Settles O48: `State.reset` is the reset state under the legal configuration `Config.tc`. -/
theorem invariantAtReset : Obligations.InvariantAtReset := ⟨fun _ hl => inv_resetWith hl, inv_resetWith legal_tc⟩

end Sys2Proof.Machine
end
